-- ==== Sys2Proof/Word.lean ====
section
/-! DEFINITION. The byte and the 16-bit word of the machine, and the plainest arithmetic on them (spec/00_scope.md
R7). Sums of bytes and words are `+` on bit vectors, which is `u8` and `u16` of the unbounded sum. -/

namespace Sys2Proof

/-- An 8-bit value: a data register, a memory byte, an opcode byte (R5, R20). -/
abbrev Byte := BitVec 8

/-- A 16-bit value: the program counter, a CPU address (R5, R21). -/
abbrev Word := BitVec 16

/-- `zext_16(b)` (R7). -/
def zext (b : Byte) : Word := b.setWidth 16

/-- `lo | (hi << 8)`: the word whose low byte is `lo` (R70, R72). -/
def mkWord (lo hi : Byte) : Word := hi ++ lo

/-- `v[7:0]` (R7). -/
def loByte (v : Word) : Byte := v.setWidth 8

/-- `v[15:8]` (R7). -/
def hiByte (v : Word) : Byte := (v >>> 8).setWidth 8

/-- `sext_16(b)`: the word with the value `s8(b)` (R7). -/
def sext (b : Byte) : Word := b.signExtend 16

/-- A Boolean used as the bit 0 or 1 (R7). -/
def bit (b : Bool) : Nat := if b then 1 else 0

end Sys2Proof
end

