-- ==== Sys2Proof/Config.lean ====
section
/-! DEFINITION. What a launch fixes (spec/00_scope.md R6) and the values the spec leaves open. The named parameters that are
plain data stand in `Params`, which State carries and no step changes, so that a claim about every state is a claim about
every choice of them. The draws (R10) are constants without a body: nothing can evaluate them, so what is proved holds for
every value. -/

namespace Sys2Proof

/-- BUS_FAULT_POLICY (R6, R66, R400): what an illegal access does after it has been recorded. -/
inductive BusFaultPolicy where
  /-- The instruction goes on: a read returns a draw, a write has no effect. -/
  | recordAndContinue
  /-- The CPU step ends at the access and no agent steps again. -/
  | halt
  deriving DecidableEq, Repr

/-- The launch parameters that are plain data (R6). -/
structure Params where
  /-- BUS_FAULT_POLICY. -/
  busFaultPolicy : BusFaultPolicy
  /-- UNOFFICIAL_SET: the opcode bytes of class unofficial that are executed; the others of that class halt (R280). -/
  unofficialSet : List Byte
  /-- END_PC: the address at which a run ends successfully (R422); none when the launch names none. -/
  endPc : Option Word
  deriving DecidableEq, Repr

/-- The opcodes of the 27 unofficial NOPs, by format (R281). -/
def nopImpliedOpcodes : List Byte := [0x1A, 0x3A, 0x5A, 0x7A, 0xDA, 0xFA]
/-- R281, immediate. -/
def nopImmediateOpcodes : List Byte := [0x80, 0x82, 0x89, 0xC2, 0xE2]
/-- R281, zero page. -/
def nopZeroPageOpcodes : List Byte := [0x04, 0x44, 0x64]
/-- R281, zero page,X. -/
def nopZeroPageXOpcodes : List Byte := [0x14, 0x34, 0x54, 0x74, 0xD4, 0xF4]
/-- R281, absolute. -/
def nopAbsoluteOpcodes : List Byte := [0x0C]
/-- R281, absolute,X. -/
def nopAbsoluteXOpcodes : List Byte := [0x1C, 0x3C, 0x5C, 0x7C, 0xDC, 0xFC]

/-- The 80 opcodes of class unofficial (R124, R281 to R290). -/
def unofficialOpcodes : List Byte :=
  nopImpliedOpcodes ++ nopImmediateOpcodes ++ nopZeroPageOpcodes ++ nopZeroPageXOpcodes ++ nopAbsoluteOpcodes ++
  nopAbsoluteXOpcodes ++
  [0xA7, 0xB7, 0xAF, 0xBF, 0xA3, 0xB3] ++          -- LAX, R282
  [0x87, 0x97, 0x8F, 0x83] ++                      -- SAX, R283
  [0xEB] ++                                        -- SBC, R284
  [0xC7, 0xD7, 0xCF, 0xDF, 0xDB, 0xC3, 0xD3] ++    -- DCP, R285
  [0xE7, 0xF7, 0xEF, 0xFF, 0xFB, 0xE3, 0xF3] ++    -- ISB, R286
  [0x07, 0x17, 0x0F, 0x1F, 0x1B, 0x03, 0x13] ++    -- SLO, R287
  [0x27, 0x37, 0x2F, 0x3F, 0x3B, 0x23, 0x33] ++    -- RLA, R288
  [0x47, 0x57, 0x4F, 0x5F, 0x5B, 0x43, 0x53] ++    -- SRE, R289
  [0x67, 0x77, 0x6F, 0x7F, 0x7B, 0x63, 0x73]       -- RRA, R290

/-- The defaults of the reference simulator (R6): record and continue, all 80 unofficial opcodes, no END_PC. -/
def Params.reference : Params :=
  { busFaultPolicy := .recordAndContinue, unofficialSet := unofficialOpcodes, endPc := none }

/-- The value a read of an illegal address returns under record_and_continue, by draw number: a draw (R66, D1).
DESIGN CHOICE (log entry 3), safe: no body, so every value is allowed. -/
opaque Config.busFaultRead : Nat → Byte

/-- PPU_OPEN_BUS (R6, R33, R301): the value a read of a write-only PPU port returns, and whose low five bits a status read
shows, by draw number. DESIGN CHOICE (log entry 3), safe. -/
opaque Config.ppuOpenBus : Nat → Byte

/-- The button byte the host supplies at a read of 0x4016, by draw number (R330). DESIGN CHOICE (log entry 3), safe. -/
opaque Config.buttons : Nat → Byte

/-- SYSTEM_PALETTE (R6, R41, R314): the 32-bit colour of each of the 64 frame values; the spec gives no table. Log entry 4,
safe. -/
opaque Config.systemPalette : BitVec 6 → BitVec 32

end Sys2Proof
end

