-- ==== Sys2Proof/Syntax.lean ====
section
/-! DEFINITION. The instructions (spec/30_encoding.md R120 to R130). There is a constructor for every mnemonic of the opcode
table, and two for a mnemonic whose rows have different rules (NOP: R271 and R281; SBC: R201 and R284). A row of the table is
a constructor with its operand form; where several rows share mnemonic and format, the constructor also carries the opcode
byte that tells them apart. -/

namespace Sys2Proof

/-- The formats with an effective address in CPU memory, with the operand bytes as the instruction holds them (R121). -/
inductive AddrMode where
  | zp (b : Byte)
  | zpX (b : Byte)
  | zpY (b : Byte)
  | abs (w : Word)
  | absX (w : Word)
  | absY (w : Word)
  /-- `(zp,X)`. -/
  | indX (b : Byte)
  /-- `(zp),Y`. -/
  | indY (b : Byte)
  deriving DecidableEq, Repr

/-- The operand of a read-class instruction (R150): an immediate byte, or memory. -/
inductive ReadOperand where
  | imm (b : Byte)
  | mem (m : AddrMode)
  deriving DecidableEq, Repr

/-- The operand of a shift or rotate (R230 to R233): the accumulator, or memory. -/
inductive ShiftOperand where
  | acc
  | mem (m : AddrMode)
  deriving DecidableEq, Repr

/-- The operand of an unofficial NOP (R281): none, an immediate byte, or a memory operand that is read. -/
inductive NopOperand where
  | implied
  | imm (b : Byte)
  | mem (m : AddrMode)
  deriving DecidableEq, Repr

/-- The target of JMP (R249): absolute, or through a pointer. -/
inductive JumpOperand where
  | abs (w : Word)
  | ind (w : Word)
  deriving DecidableEq, Repr

/-- The instructions. -/
inductive Instr where
  -- loads, stores and transfers (R180 to R191)
  | lda (m : ReadOperand)
  | ldx (m : ReadOperand)
  | ldy (m : ReadOperand)
  | sta (m : AddrMode)
  | stx (m : AddrMode)
  | sty (m : AddrMode)
  | tax
  | tay
  | txa
  | tya
  | tsx
  | txs
  -- arithmetic, logic, compare, increment, decrement (R200 to R214)
  | adc (m : ReadOperand)
  | sbc (m : ReadOperand)
  | and (m : ReadOperand)
  | ora (m : ReadOperand)
  | eor (m : ReadOperand)
  | cmp (m : ReadOperand)
  | cpx (m : ReadOperand)
  | cpy (m : ReadOperand)
  | bit (m : AddrMode)
  | inc (m : AddrMode)
  | dec (m : AddrMode)
  | inx
  | iny
  | dex
  | dey
  -- shifts and rotates (R230 to R233)
  | asl (m : ShiftOperand)
  | lsr (m : ShiftOperand)
  | rol (m : ShiftOperand)
  | ror (m : ShiftOperand)
  -- branches, jumps, subroutines, software interrupt (R240 to R253); `d` is the displacement byte
  | bpl (d : Byte)
  | bmi (d : Byte)
  | bvc (d : Byte)
  | bvs (d : Byte)
  | bcc (d : Byte)
  | bcs (d : Byte)
  | bne (d : Byte)
  | beq (d : Byte)
  | jmp (t : JumpOperand)
  | jsr (w : Word)
  | rts
  | rti
  /-- The padding byte of BRK is never read (R253), so it is no operand. -/
  | brk
  -- stack, flags, NOP (R260 to R271)
  | pha
  | php
  | pla
  | plp
  | clc
  | sec
  | cli
  | sei
  | cld
  | sed
  | clv
  | nop
  -- unofficial (R281 to R290)
  /-- An unofficial NOP; `op` is the cell of the opcode map it stands in. -/
  | nopUnofficial (op : Byte) (m : NopOperand)
  | lax (m : AddrMode)
  | sax (m : AddrMode)
  /-- SBC 0xEB. -/
  | sbcEB (b : Byte)
  | dcp (m : AddrMode)
  | isb (m : AddrMode)
  | slo (m : AddrMode)
  | rla (m : AddrMode)
  | sre (m : AddrMode)
  | rra (m : AddrMode)
  -- halting (R291): the tick ends before any operand byte is read, so only the cell of the opcode map remains
  | kil (op : Byte)
  | anc (op : Byte)
  | alr
  | arr
  | xaa
  | ahx (op : Byte)
  | tas
  | shy
  | shx
  | lxa
  | las
  | axs
  deriving DecidableEq, Repr

/-- The instruction's mnemonic, as spec/opcode_table.json spells it. -/
def Instr.mnemonic : Instr → String
  | .lda _ => "LDA" | .ldx _ => "LDX" | .ldy _ => "LDY" | .sta _ => "STA" | .stx _ => "STX" | .sty _ => "STY"
  | .tax => "TAX" | .tay => "TAY" | .txa => "TXA" | .tya => "TYA" | .tsx => "TSX" | .txs => "TXS"
  | .adc _ => "ADC" | .sbc _ => "SBC" | .and _ => "AND" | .ora _ => "ORA" | .eor _ => "EOR"
  | .cmp _ => "CMP" | .cpx _ => "CPX" | .cpy _ => "CPY" | .bit _ => "BIT" | .inc _ => "INC" | .dec _ => "DEC"
  | .inx => "INX" | .iny => "INY" | .dex => "DEX" | .dey => "DEY"
  | .asl _ => "ASL" | .lsr _ => "LSR" | .rol _ => "ROL" | .ror _ => "ROR"
  | .bpl _ => "BPL" | .bmi _ => "BMI" | .bvc _ => "BVC" | .bvs _ => "BVS"
  | .bcc _ => "BCC" | .bcs _ => "BCS" | .bne _ => "BNE" | .beq _ => "BEQ"
  | .jmp _ => "JMP" | .jsr _ => "JSR" | .rts => "RTS" | .rti => "RTI" | .brk => "BRK"
  | .pha => "PHA" | .php => "PHP" | .pla => "PLA" | .plp => "PLP"
  | .clc => "CLC" | .sec => "SEC" | .cli => "CLI" | .sei => "SEI" | .cld => "CLD" | .sed => "SED" | .clv => "CLV"
  | .nop => "NOP" | .nopUnofficial _ _ => "NOP"
  | .lax _ => "LAX" | .sax _ => "SAX" | .sbcEB _ => "SBC" | .dcp _ => "DCP" | .isb _ => "ISB" | .slo _ => "SLO"
  | .rla _ => "RLA" | .sre _ => "SRE" | .rra _ => "RRA"
  | .kil _ => "KIL" | .anc _ => "ANC" | .alr => "ALR" | .arr => "ARR" | .xaa => "XAA" | .ahx _ => "AHX"
  | .tas => "TAS" | .shy => "SHY" | .shx => "SHX" | .lxa => "LXA" | .las => "LAS" | .axs => "AXS"

end Sys2Proof
end

