-- ==== Sys2Proof/WellFormed.lean ====
section
/-! DEFINITION. Which operand forms the opcode table gives each instruction: the "Encoding" lines of the instructions' rules
(spec/41 to spec/46). An instruction is well-formed when the table has a row for it. -/

namespace Sys2Proof

/-- The eight forms of LDA, ADC, SBC, AND, ORA, EOR and CMP (R180, R200 to R205). -/
def ReadOperand.isAccumulatorForm : ReadOperand → Bool
  | .imm _ => true
  | .mem (.zpY _) => false
  | .mem _ => true

/-- The forms of STA (R183): zp; zp,X; abs; abs,X; abs,Y; (zp,X); (zp),Y. The read-modify-write forms of R285 to R290 are
the same. -/
def AddrMode.isStoreForm : AddrMode → Bool
  | .zpY _ => false
  | _ => true

/-- zp; zp,X; abs; abs,X: the memory forms of INC, DEC and the shifts (R209, R210, R230 to R233). -/
def AddrMode.isModifyForm : AddrMode → Bool
  | .zp _ | .zpX _ | .abs _ | .absX _ => true
  | _ => false

/-- zp; abs: BIT and the memory forms of CPX and CPY (R206 to R208). -/
def AddrMode.isPlainForm : AddrMode → Bool
  | .zp _ | .abs _ => true
  | _ => false

/-- The forms of LDX (R181). -/
def ReadOperand.isLdxForm : ReadOperand → Bool
  | .imm _ | .mem (.zp _) | .mem (.zpY _) | .mem (.abs _) | .mem (.absY _) => true
  | _ => false

/-- The forms of LDY (R182). -/
def ReadOperand.isLdyForm : ReadOperand → Bool
  | .imm _ | .mem (.zp _) | .mem (.zpX _) | .mem (.abs _) | .mem (.absX _) => true
  | _ => false

/-- The forms of CPX and CPY (R206, R207). -/
def ReadOperand.isCompareIndexForm : ReadOperand → Bool
  | .imm _ => true
  | .mem m => m.isPlainForm

/-- The forms of the shifts and rotates (R230 to R233). -/
def ShiftOperand.isShiftForm : ShiftOperand → Bool
  | .acc => true
  | .mem m => m.isModifyForm

/-- The opcode cells of an unofficial NOP of each format (R281). -/
def NopOperand.cells : NopOperand → List Byte
  | .implied => nopImpliedOpcodes
  | .imm _ => nopImmediateOpcodes
  | .mem (.zp _) => nopZeroPageOpcodes
  | .mem (.zpX _) => nopZeroPageXOpcodes
  | .mem (.abs _) => nopAbsoluteOpcodes
  | .mem (.absX _) => nopAbsoluteXOpcodes
  | .mem _ => []

/-- The cells of KIL (R291). -/
def kilOpcodes : List Byte := [0x02, 0x12, 0x22, 0x32, 0x42, 0x52, 0x62, 0x72, 0x92, 0xB2, 0xD2, 0xF2]
/-- The cells of ANC (R291). -/
def ancOpcodes : List Byte := [0x0B, 0x2B]
/-- The cells of AHX (R291). -/
def ahxOpcodes : List Byte := [0x93, 0x9F]

/-- The table has a row for the instruction. -/
def Instr.wellFormed : Instr → Bool
  | .lda m | .adc m | .sbc m | .and m | .ora m | .eor m | .cmp m => m.isAccumulatorForm
  | .ldx m => m.isLdxForm
  | .ldy m => m.isLdyForm
  | .cpx m | .cpy m => m.isCompareIndexForm
  | .sta m | .dcp m | .isb m | .slo m | .rla m | .sre m | .rra m => m.isStoreForm
  | .stx m => match m with | .zp _ | .zpY _ | .abs _ => true | _ => false
  | .sty m => match m with | .zp _ | .zpX _ | .abs _ => true | _ => false
  | .bit m => m.isPlainForm
  | .inc m | .dec m => m.isModifyForm
  | .asl m | .lsr m | .rol m | .ror m => m.isShiftForm
  | .lax m => match m with | .zp _ | .zpY _ | .abs _ | .absY _ | .indX _ | .indY _ => true | _ => false
  | .sax m => match m with | .zp _ | .zpY _ | .abs _ | .indX _ => true | _ => false
  | .nopUnofficial op m => m.cells.contains op
  | .kil op => kilOpcodes.contains op
  | .anc op => ancOpcodes.contains op
  | .ahx op => ahxOpcodes.contains op
  | .tax | .tay | .txa | .tya | .tsx | .txs | .inx | .iny | .dex | .dey => true
  | .bpl _ | .bmi _ | .bvc _ | .bvs _ | .bcc _ | .bcs _ | .bne _ | .beq _ | .jmp _ | .jsr _ | .rts | .rti | .brk => true
  | .pha | .php | .pla | .plp | .clc | .sec | .cli | .sei | .cld | .sed | .clv | .nop | .sbcEB _ => true
  | .alr | .arr | .xaa | .tas | .shy | .shx | .lxa | .las | .axs => true

end Sys2Proof
end

