-- ==== Sys2Proof/Decode.lean ====
section
/-! DEFINITION. The decode table, the decoder and the encoder (spec/30_encoding.md R120 to R130). -/

namespace Sys2Proof

/-- The formats of R121. -/
inductive Format where
  | implied | accumulator | immediate | zeropage | zeropageX | zeropageY | absolute | absoluteX | absoluteY
  | indirectX | indirectY | relative | indirect
  deriving DecidableEq, Repr

/-- What can be added to a row's base cycles (R123, R149, R240). -/
inductive Penalty where
  | none | page | branch
  deriving DecidableEq, Repr

/-- The classes of R124. -/
inductive OpClass where
  | official | unofficial | halting
  deriving DecidableEq, Repr

/-- A row of the decode table (R130). -/
structure Row where
  opcode : Byte
  mnemonic : String
  format : Format
  /-- In bytes. -/
  size : Nat
  cycles : Nat
  penalty : Penalty
  cls : OpClass
  deriving DecidableEq, Repr

/-! ## The 256 rows -/

/-- Opcodes 0x00 to 0x0F (R130). -/
def rows0 : List Row :=
  [ ⟨0x00, "BRK", .implied, 2, 7, .none, .official⟩,
    ⟨0x01, "ORA", .indirectX, 2, 6, .none, .official⟩,
    ⟨0x02, "KIL", .implied, 1, 2, .none, .halting⟩,
    ⟨0x03, "SLO", .indirectX, 2, 8, .none, .unofficial⟩,
    ⟨0x04, "NOP", .zeropage, 2, 3, .none, .unofficial⟩,
    ⟨0x05, "ORA", .zeropage, 2, 3, .none, .official⟩,
    ⟨0x06, "ASL", .zeropage, 2, 5, .none, .official⟩,
    ⟨0x07, "SLO", .zeropage, 2, 5, .none, .unofficial⟩,
    ⟨0x08, "PHP", .implied, 1, 3, .none, .official⟩,
    ⟨0x09, "ORA", .immediate, 2, 2, .none, .official⟩,
    ⟨0x0A, "ASL", .accumulator, 1, 2, .none, .official⟩,
    ⟨0x0B, "ANC", .immediate, 2, 2, .none, .halting⟩,
    ⟨0x0C, "NOP", .absolute, 3, 4, .none, .unofficial⟩,
    ⟨0x0D, "ORA", .absolute, 3, 4, .none, .official⟩,
    ⟨0x0E, "ASL", .absolute, 3, 6, .none, .official⟩,
    ⟨0x0F, "SLO", .absolute, 3, 6, .none, .unofficial⟩ ]

/-- Opcodes 0x10 to 0x1F (R130). -/
def rows1 : List Row :=
  [ ⟨0x10, "BPL", .relative, 2, 2, .branch, .official⟩,
    ⟨0x11, "ORA", .indirectY, 2, 5, .page, .official⟩,
    ⟨0x12, "KIL", .implied, 1, 2, .none, .halting⟩,
    ⟨0x13, "SLO", .indirectY, 2, 8, .none, .unofficial⟩,
    ⟨0x14, "NOP", .zeropageX, 2, 4, .none, .unofficial⟩,
    ⟨0x15, "ORA", .zeropageX, 2, 4, .none, .official⟩,
    ⟨0x16, "ASL", .zeropageX, 2, 6, .none, .official⟩,
    ⟨0x17, "SLO", .zeropageX, 2, 6, .none, .unofficial⟩,
    ⟨0x18, "CLC", .implied, 1, 2, .none, .official⟩,
    ⟨0x19, "ORA", .absoluteY, 3, 4, .page, .official⟩,
    ⟨0x1A, "NOP", .implied, 1, 2, .none, .unofficial⟩,
    ⟨0x1B, "SLO", .absoluteY, 3, 7, .none, .unofficial⟩,
    ⟨0x1C, "NOP", .absoluteX, 3, 4, .page, .unofficial⟩,
    ⟨0x1D, "ORA", .absoluteX, 3, 4, .page, .official⟩,
    ⟨0x1E, "ASL", .absoluteX, 3, 7, .none, .official⟩,
    ⟨0x1F, "SLO", .absoluteX, 3, 7, .none, .unofficial⟩ ]

/-- Opcodes 0x20 to 0x2F (R130). -/
def rows2 : List Row :=
  [ ⟨0x20, "JSR", .absolute, 3, 6, .none, .official⟩,
    ⟨0x21, "AND", .indirectX, 2, 6, .none, .official⟩,
    ⟨0x22, "KIL", .implied, 1, 2, .none, .halting⟩,
    ⟨0x23, "RLA", .indirectX, 2, 8, .none, .unofficial⟩,
    ⟨0x24, "BIT", .zeropage, 2, 3, .none, .official⟩,
    ⟨0x25, "AND", .zeropage, 2, 3, .none, .official⟩,
    ⟨0x26, "ROL", .zeropage, 2, 5, .none, .official⟩,
    ⟨0x27, "RLA", .zeropage, 2, 5, .none, .unofficial⟩,
    ⟨0x28, "PLP", .implied, 1, 4, .none, .official⟩,
    ⟨0x29, "AND", .immediate, 2, 2, .none, .official⟩,
    ⟨0x2A, "ROL", .accumulator, 1, 2, .none, .official⟩,
    ⟨0x2B, "ANC", .immediate, 2, 2, .none, .halting⟩,
    ⟨0x2C, "BIT", .absolute, 3, 4, .none, .official⟩,
    ⟨0x2D, "AND", .absolute, 3, 4, .none, .official⟩,
    ⟨0x2E, "ROL", .absolute, 3, 6, .none, .official⟩,
    ⟨0x2F, "RLA", .absolute, 3, 6, .none, .unofficial⟩ ]

/-- Opcodes 0x30 to 0x3F (R130). -/
def rows3 : List Row :=
  [ ⟨0x30, "BMI", .relative, 2, 2, .branch, .official⟩,
    ⟨0x31, "AND", .indirectY, 2, 5, .page, .official⟩,
    ⟨0x32, "KIL", .implied, 1, 2, .none, .halting⟩,
    ⟨0x33, "RLA", .indirectY, 2, 8, .none, .unofficial⟩,
    ⟨0x34, "NOP", .zeropageX, 2, 4, .none, .unofficial⟩,
    ⟨0x35, "AND", .zeropageX, 2, 4, .none, .official⟩,
    ⟨0x36, "ROL", .zeropageX, 2, 6, .none, .official⟩,
    ⟨0x37, "RLA", .zeropageX, 2, 6, .none, .unofficial⟩,
    ⟨0x38, "SEC", .implied, 1, 2, .none, .official⟩,
    ⟨0x39, "AND", .absoluteY, 3, 4, .page, .official⟩,
    ⟨0x3A, "NOP", .implied, 1, 2, .none, .unofficial⟩,
    ⟨0x3B, "RLA", .absoluteY, 3, 7, .none, .unofficial⟩,
    ⟨0x3C, "NOP", .absoluteX, 3, 4, .page, .unofficial⟩,
    ⟨0x3D, "AND", .absoluteX, 3, 4, .page, .official⟩,
    ⟨0x3E, "ROL", .absoluteX, 3, 7, .none, .official⟩,
    ⟨0x3F, "RLA", .absoluteX, 3, 7, .none, .unofficial⟩ ]

/-- Opcodes 0x40 to 0x4F (R130). -/
def rows4 : List Row :=
  [ ⟨0x40, "RTI", .implied, 1, 6, .none, .official⟩,
    ⟨0x41, "EOR", .indirectX, 2, 6, .none, .official⟩,
    ⟨0x42, "KIL", .implied, 1, 2, .none, .halting⟩,
    ⟨0x43, "SRE", .indirectX, 2, 8, .none, .unofficial⟩,
    ⟨0x44, "NOP", .zeropage, 2, 3, .none, .unofficial⟩,
    ⟨0x45, "EOR", .zeropage, 2, 3, .none, .official⟩,
    ⟨0x46, "LSR", .zeropage, 2, 5, .none, .official⟩,
    ⟨0x47, "SRE", .zeropage, 2, 5, .none, .unofficial⟩,
    ⟨0x48, "PHA", .implied, 1, 3, .none, .official⟩,
    ⟨0x49, "EOR", .immediate, 2, 2, .none, .official⟩,
    ⟨0x4A, "LSR", .accumulator, 1, 2, .none, .official⟩,
    ⟨0x4B, "ALR", .immediate, 2, 2, .none, .halting⟩,
    ⟨0x4C, "JMP", .absolute, 3, 3, .none, .official⟩,
    ⟨0x4D, "EOR", .absolute, 3, 4, .none, .official⟩,
    ⟨0x4E, "LSR", .absolute, 3, 6, .none, .official⟩,
    ⟨0x4F, "SRE", .absolute, 3, 6, .none, .unofficial⟩ ]

/-- Opcodes 0x50 to 0x5F (R130). -/
def rows5 : List Row :=
  [ ⟨0x50, "BVC", .relative, 2, 2, .branch, .official⟩,
    ⟨0x51, "EOR", .indirectY, 2, 5, .page, .official⟩,
    ⟨0x52, "KIL", .implied, 1, 2, .none, .halting⟩,
    ⟨0x53, "SRE", .indirectY, 2, 8, .none, .unofficial⟩,
    ⟨0x54, "NOP", .zeropageX, 2, 4, .none, .unofficial⟩,
    ⟨0x55, "EOR", .zeropageX, 2, 4, .none, .official⟩,
    ⟨0x56, "LSR", .zeropageX, 2, 6, .none, .official⟩,
    ⟨0x57, "SRE", .zeropageX, 2, 6, .none, .unofficial⟩,
    ⟨0x58, "CLI", .implied, 1, 2, .none, .official⟩,
    ⟨0x59, "EOR", .absoluteY, 3, 4, .page, .official⟩,
    ⟨0x5A, "NOP", .implied, 1, 2, .none, .unofficial⟩,
    ⟨0x5B, "SRE", .absoluteY, 3, 7, .none, .unofficial⟩,
    ⟨0x5C, "NOP", .absoluteX, 3, 4, .page, .unofficial⟩,
    ⟨0x5D, "EOR", .absoluteX, 3, 4, .page, .official⟩,
    ⟨0x5E, "LSR", .absoluteX, 3, 7, .none, .official⟩,
    ⟨0x5F, "SRE", .absoluteX, 3, 7, .none, .unofficial⟩ ]

/-- Opcodes 0x60 to 0x6F (R130). -/
def rows6 : List Row :=
  [ ⟨0x60, "RTS", .implied, 1, 6, .none, .official⟩,
    ⟨0x61, "ADC", .indirectX, 2, 6, .none, .official⟩,
    ⟨0x62, "KIL", .implied, 1, 2, .none, .halting⟩,
    ⟨0x63, "RRA", .indirectX, 2, 8, .none, .unofficial⟩,
    ⟨0x64, "NOP", .zeropage, 2, 3, .none, .unofficial⟩,
    ⟨0x65, "ADC", .zeropage, 2, 3, .none, .official⟩,
    ⟨0x66, "ROR", .zeropage, 2, 5, .none, .official⟩,
    ⟨0x67, "RRA", .zeropage, 2, 5, .none, .unofficial⟩,
    ⟨0x68, "PLA", .implied, 1, 4, .none, .official⟩,
    ⟨0x69, "ADC", .immediate, 2, 2, .none, .official⟩,
    ⟨0x6A, "ROR", .accumulator, 1, 2, .none, .official⟩,
    ⟨0x6B, "ARR", .immediate, 2, 2, .none, .halting⟩,
    ⟨0x6C, "JMP", .indirect, 3, 5, .none, .official⟩,
    ⟨0x6D, "ADC", .absolute, 3, 4, .none, .official⟩,
    ⟨0x6E, "ROR", .absolute, 3, 6, .none, .official⟩,
    ⟨0x6F, "RRA", .absolute, 3, 6, .none, .unofficial⟩ ]

/-- Opcodes 0x70 to 0x7F (R130). -/
def rows7 : List Row :=
  [ ⟨0x70, "BVS", .relative, 2, 2, .branch, .official⟩,
    ⟨0x71, "ADC", .indirectY, 2, 5, .page, .official⟩,
    ⟨0x72, "KIL", .implied, 1, 2, .none, .halting⟩,
    ⟨0x73, "RRA", .indirectY, 2, 8, .none, .unofficial⟩,
    ⟨0x74, "NOP", .zeropageX, 2, 4, .none, .unofficial⟩,
    ⟨0x75, "ADC", .zeropageX, 2, 4, .none, .official⟩,
    ⟨0x76, "ROR", .zeropageX, 2, 6, .none, .official⟩,
    ⟨0x77, "RRA", .zeropageX, 2, 6, .none, .unofficial⟩,
    ⟨0x78, "SEI", .implied, 1, 2, .none, .official⟩,
    ⟨0x79, "ADC", .absoluteY, 3, 4, .page, .official⟩,
    ⟨0x7A, "NOP", .implied, 1, 2, .none, .unofficial⟩,
    ⟨0x7B, "RRA", .absoluteY, 3, 7, .none, .unofficial⟩,
    ⟨0x7C, "NOP", .absoluteX, 3, 4, .page, .unofficial⟩,
    ⟨0x7D, "ADC", .absoluteX, 3, 4, .page, .official⟩,
    ⟨0x7E, "ROR", .absoluteX, 3, 7, .none, .official⟩,
    ⟨0x7F, "RRA", .absoluteX, 3, 7, .none, .unofficial⟩ ]

/-- Opcodes 0x80 to 0x8F (R130). -/
def rows8 : List Row :=
  [ ⟨0x80, "NOP", .immediate, 2, 2, .none, .unofficial⟩,
    ⟨0x81, "STA", .indirectX, 2, 6, .none, .official⟩,
    ⟨0x82, "NOP", .immediate, 2, 2, .none, .unofficial⟩,
    ⟨0x83, "SAX", .indirectX, 2, 6, .none, .unofficial⟩,
    ⟨0x84, "STY", .zeropage, 2, 3, .none, .official⟩,
    ⟨0x85, "STA", .zeropage, 2, 3, .none, .official⟩,
    ⟨0x86, "STX", .zeropage, 2, 3, .none, .official⟩,
    ⟨0x87, "SAX", .zeropage, 2, 3, .none, .unofficial⟩,
    ⟨0x88, "DEY", .implied, 1, 2, .none, .official⟩,
    ⟨0x89, "NOP", .immediate, 2, 2, .none, .unofficial⟩,
    ⟨0x8A, "TXA", .implied, 1, 2, .none, .official⟩,
    ⟨0x8B, "XAA", .immediate, 2, 2, .none, .halting⟩,
    ⟨0x8C, "STY", .absolute, 3, 4, .none, .official⟩,
    ⟨0x8D, "STA", .absolute, 3, 4, .none, .official⟩,
    ⟨0x8E, "STX", .absolute, 3, 4, .none, .official⟩,
    ⟨0x8F, "SAX", .absolute, 3, 4, .none, .unofficial⟩ ]

/-- Opcodes 0x90 to 0x9F (R130). -/
def rows9 : List Row :=
  [ ⟨0x90, "BCC", .relative, 2, 2, .branch, .official⟩,
    ⟨0x91, "STA", .indirectY, 2, 6, .none, .official⟩,
    ⟨0x92, "KIL", .implied, 1, 2, .none, .halting⟩,
    ⟨0x93, "AHX", .indirectY, 2, 6, .none, .halting⟩,
    ⟨0x94, "STY", .zeropageX, 2, 4, .none, .official⟩,
    ⟨0x95, "STA", .zeropageX, 2, 4, .none, .official⟩,
    ⟨0x96, "STX", .zeropageY, 2, 4, .none, .official⟩,
    ⟨0x97, "SAX", .zeropageY, 2, 4, .none, .unofficial⟩,
    ⟨0x98, "TYA", .implied, 1, 2, .none, .official⟩,
    ⟨0x99, "STA", .absoluteY, 3, 5, .none, .official⟩,
    ⟨0x9A, "TXS", .implied, 1, 2, .none, .official⟩,
    ⟨0x9B, "TAS", .absoluteY, 3, 5, .none, .halting⟩,
    ⟨0x9C, "SHY", .absoluteX, 3, 5, .none, .halting⟩,
    ⟨0x9D, "STA", .absoluteX, 3, 5, .none, .official⟩,
    ⟨0x9E, "SHX", .absoluteY, 3, 5, .none, .halting⟩,
    ⟨0x9F, "AHX", .absoluteY, 3, 5, .none, .halting⟩ ]

/-- Opcodes 0xA0 to 0xAF (R130). -/
def rowsA : List Row :=
  [ ⟨0xA0, "LDY", .immediate, 2, 2, .none, .official⟩,
    ⟨0xA1, "LDA", .indirectX, 2, 6, .none, .official⟩,
    ⟨0xA2, "LDX", .immediate, 2, 2, .none, .official⟩,
    ⟨0xA3, "LAX", .indirectX, 2, 6, .none, .unofficial⟩,
    ⟨0xA4, "LDY", .zeropage, 2, 3, .none, .official⟩,
    ⟨0xA5, "LDA", .zeropage, 2, 3, .none, .official⟩,
    ⟨0xA6, "LDX", .zeropage, 2, 3, .none, .official⟩,
    ⟨0xA7, "LAX", .zeropage, 2, 3, .none, .unofficial⟩,
    ⟨0xA8, "TAY", .implied, 1, 2, .none, .official⟩,
    ⟨0xA9, "LDA", .immediate, 2, 2, .none, .official⟩,
    ⟨0xAA, "TAX", .implied, 1, 2, .none, .official⟩,
    ⟨0xAB, "LXA", .immediate, 2, 2, .none, .halting⟩,
    ⟨0xAC, "LDY", .absolute, 3, 4, .none, .official⟩,
    ⟨0xAD, "LDA", .absolute, 3, 4, .none, .official⟩,
    ⟨0xAE, "LDX", .absolute, 3, 4, .none, .official⟩,
    ⟨0xAF, "LAX", .absolute, 3, 4, .none, .unofficial⟩ ]

/-- Opcodes 0xB0 to 0xBF (R130). -/
def rowsB : List Row :=
  [ ⟨0xB0, "BCS", .relative, 2, 2, .branch, .official⟩,
    ⟨0xB1, "LDA", .indirectY, 2, 5, .page, .official⟩,
    ⟨0xB2, "KIL", .implied, 1, 2, .none, .halting⟩,
    ⟨0xB3, "LAX", .indirectY, 2, 5, .page, .unofficial⟩,
    ⟨0xB4, "LDY", .zeropageX, 2, 4, .none, .official⟩,
    ⟨0xB5, "LDA", .zeropageX, 2, 4, .none, .official⟩,
    ⟨0xB6, "LDX", .zeropageY, 2, 4, .none, .official⟩,
    ⟨0xB7, "LAX", .zeropageY, 2, 4, .none, .unofficial⟩,
    ⟨0xB8, "CLV", .implied, 1, 2, .none, .official⟩,
    ⟨0xB9, "LDA", .absoluteY, 3, 4, .page, .official⟩,
    ⟨0xBA, "TSX", .implied, 1, 2, .none, .official⟩,
    ⟨0xBB, "LAS", .absoluteY, 3, 4, .none, .halting⟩,
    ⟨0xBC, "LDY", .absoluteX, 3, 4, .page, .official⟩,
    ⟨0xBD, "LDA", .absoluteX, 3, 4, .page, .official⟩,
    ⟨0xBE, "LDX", .absoluteY, 3, 4, .page, .official⟩,
    ⟨0xBF, "LAX", .absoluteY, 3, 4, .page, .unofficial⟩ ]

/-- Opcodes 0xC0 to 0xCF (R130). -/
def rowsC : List Row :=
  [ ⟨0xC0, "CPY", .immediate, 2, 2, .none, .official⟩,
    ⟨0xC1, "CMP", .indirectX, 2, 6, .none, .official⟩,
    ⟨0xC2, "NOP", .immediate, 2, 2, .none, .unofficial⟩,
    ⟨0xC3, "DCP", .indirectX, 2, 8, .none, .unofficial⟩,
    ⟨0xC4, "CPY", .zeropage, 2, 3, .none, .official⟩,
    ⟨0xC5, "CMP", .zeropage, 2, 3, .none, .official⟩,
    ⟨0xC6, "DEC", .zeropage, 2, 5, .none, .official⟩,
    ⟨0xC7, "DCP", .zeropage, 2, 5, .none, .unofficial⟩,
    ⟨0xC8, "INY", .implied, 1, 2, .none, .official⟩,
    ⟨0xC9, "CMP", .immediate, 2, 2, .none, .official⟩,
    ⟨0xCA, "DEX", .implied, 1, 2, .none, .official⟩,
    ⟨0xCB, "AXS", .immediate, 2, 2, .none, .halting⟩,
    ⟨0xCC, "CPY", .absolute, 3, 4, .none, .official⟩,
    ⟨0xCD, "CMP", .absolute, 3, 4, .none, .official⟩,
    ⟨0xCE, "DEC", .absolute, 3, 6, .none, .official⟩,
    ⟨0xCF, "DCP", .absolute, 3, 6, .none, .unofficial⟩ ]

/-- Opcodes 0xD0 to 0xDF (R130). -/
def rowsD : List Row :=
  [ ⟨0xD0, "BNE", .relative, 2, 2, .branch, .official⟩,
    ⟨0xD1, "CMP", .indirectY, 2, 5, .page, .official⟩,
    ⟨0xD2, "KIL", .implied, 1, 2, .none, .halting⟩,
    ⟨0xD3, "DCP", .indirectY, 2, 8, .none, .unofficial⟩,
    ⟨0xD4, "NOP", .zeropageX, 2, 4, .none, .unofficial⟩,
    ⟨0xD5, "CMP", .zeropageX, 2, 4, .none, .official⟩,
    ⟨0xD6, "DEC", .zeropageX, 2, 6, .none, .official⟩,
    ⟨0xD7, "DCP", .zeropageX, 2, 6, .none, .unofficial⟩,
    ⟨0xD8, "CLD", .implied, 1, 2, .none, .official⟩,
    ⟨0xD9, "CMP", .absoluteY, 3, 4, .page, .official⟩,
    ⟨0xDA, "NOP", .implied, 1, 2, .none, .unofficial⟩,
    ⟨0xDB, "DCP", .absoluteY, 3, 7, .none, .unofficial⟩,
    ⟨0xDC, "NOP", .absoluteX, 3, 4, .page, .unofficial⟩,
    ⟨0xDD, "CMP", .absoluteX, 3, 4, .page, .official⟩,
    ⟨0xDE, "DEC", .absoluteX, 3, 7, .none, .official⟩,
    ⟨0xDF, "DCP", .absoluteX, 3, 7, .none, .unofficial⟩ ]

/-- Opcodes 0xE0 to 0xEF (R130). -/
def rowsE : List Row :=
  [ ⟨0xE0, "CPX", .immediate, 2, 2, .none, .official⟩,
    ⟨0xE1, "SBC", .indirectX, 2, 6, .none, .official⟩,
    ⟨0xE2, "NOP", .immediate, 2, 2, .none, .unofficial⟩,
    ⟨0xE3, "ISB", .indirectX, 2, 8, .none, .unofficial⟩,
    ⟨0xE4, "CPX", .zeropage, 2, 3, .none, .official⟩,
    ⟨0xE5, "SBC", .zeropage, 2, 3, .none, .official⟩,
    ⟨0xE6, "INC", .zeropage, 2, 5, .none, .official⟩,
    ⟨0xE7, "ISB", .zeropage, 2, 5, .none, .unofficial⟩,
    ⟨0xE8, "INX", .implied, 1, 2, .none, .official⟩,
    ⟨0xE9, "SBC", .immediate, 2, 2, .none, .official⟩,
    ⟨0xEA, "NOP", .implied, 1, 2, .none, .official⟩,
    ⟨0xEB, "SBC", .immediate, 2, 2, .none, .unofficial⟩,
    ⟨0xEC, "CPX", .absolute, 3, 4, .none, .official⟩,
    ⟨0xED, "SBC", .absolute, 3, 4, .none, .official⟩,
    ⟨0xEE, "INC", .absolute, 3, 6, .none, .official⟩,
    ⟨0xEF, "ISB", .absolute, 3, 6, .none, .unofficial⟩ ]

/-- Opcodes 0xF0 to 0xFF (R130). -/
def rowsF : List Row :=
  [ ⟨0xF0, "BEQ", .relative, 2, 2, .branch, .official⟩,
    ⟨0xF1, "SBC", .indirectY, 2, 5, .page, .official⟩,
    ⟨0xF2, "KIL", .implied, 1, 2, .none, .halting⟩,
    ⟨0xF3, "ISB", .indirectY, 2, 8, .none, .unofficial⟩,
    ⟨0xF4, "NOP", .zeropageX, 2, 4, .none, .unofficial⟩,
    ⟨0xF5, "SBC", .zeropageX, 2, 4, .none, .official⟩,
    ⟨0xF6, "INC", .zeropageX, 2, 6, .none, .official⟩,
    ⟨0xF7, "ISB", .zeropageX, 2, 6, .none, .unofficial⟩,
    ⟨0xF8, "SED", .implied, 1, 2, .none, .official⟩,
    ⟨0xF9, "SBC", .absoluteY, 3, 4, .page, .official⟩,
    ⟨0xFA, "NOP", .implied, 1, 2, .none, .unofficial⟩,
    ⟨0xFB, "ISB", .absoluteY, 3, 7, .none, .unofficial⟩,
    ⟨0xFC, "NOP", .absoluteX, 3, 4, .page, .unofficial⟩,
    ⟨0xFD, "SBC", .absoluteX, 3, 4, .page, .official⟩,
    ⟨0xFE, "INC", .absoluteX, 3, 7, .none, .official⟩,
    ⟨0xFF, "ISB", .absoluteX, 3, 7, .none, .unofficial⟩ ]

/-- The sixteen rows whose opcode has the given high nibble. -/
def rowBlock (hi : Nat) : List Row :=
  match hi with
  | 0 => rows0
  | 1 => rows1
  | 2 => rows2
  | 3 => rows3
  | 4 => rows4
  | 5 => rows5
  | 6 => rows6
  | 7 => rows7
  | 8 => rows8
  | 9 => rows9
  | 10 => rowsA
  | 11 => rowsB
  | 12 => rowsC
  | 13 => rowsD
  | 14 => rowsE
  | _ => rowsF

/-- The row of an opcode byte: decoding is total, each of the 256 values selects exactly one row (R123). The default is
never taken: there are 16 blocks of 16 rows. -/
def rowOf (op : Byte) : Row :=
  (rowBlock (op.toNat / 16)).getD (op.toNat % 16) ⟨op, "", .implied, 1, 0, .none, .halting⟩

/-! ## Decoding -/

/-- Row 0x of the opcode map (R129). -/
def cells0 (b1 b2 : Byte) : List Instr :=
  [ .brk, .ora (.mem (.indX b1)), .kil 0x02, .slo (.indX b1),
    .nopUnofficial 0x04 (.mem (.zp b1)), .ora (.mem (.zp b1)), .asl (.mem (.zp b1)), .slo (.zp b1),
    .php, .ora (.imm b1), .asl .acc, .anc 0x0B,
    .nopUnofficial 0x0C (.mem (.abs (mkWord b1 b2))), .ora (.mem (.abs (mkWord b1 b2))), .asl (.mem (.abs (mkWord b1 b2))), .slo (.abs (mkWord b1 b2)) ]

/-- Row 1x of the opcode map (R129). -/
def cells1 (b1 b2 : Byte) : List Instr :=
  [ .bpl b1, .ora (.mem (.indY b1)), .kil 0x12, .slo (.indY b1),
    .nopUnofficial 0x14 (.mem (.zpX b1)), .ora (.mem (.zpX b1)), .asl (.mem (.zpX b1)), .slo (.zpX b1),
    .clc, .ora (.mem (.absY (mkWord b1 b2))), .nopUnofficial 0x1A .implied, .slo (.absY (mkWord b1 b2)),
    .nopUnofficial 0x1C (.mem (.absX (mkWord b1 b2))), .ora (.mem (.absX (mkWord b1 b2))), .asl (.mem (.absX (mkWord b1 b2))), .slo (.absX (mkWord b1 b2)) ]

/-- Row 2x of the opcode map (R129). -/
def cells2 (b1 b2 : Byte) : List Instr :=
  [ .jsr (mkWord b1 b2), .and (.mem (.indX b1)), .kil 0x22, .rla (.indX b1),
    .bit (.zp b1), .and (.mem (.zp b1)), .rol (.mem (.zp b1)), .rla (.zp b1),
    .plp, .and (.imm b1), .rol .acc, .anc 0x2B,
    .bit (.abs (mkWord b1 b2)), .and (.mem (.abs (mkWord b1 b2))), .rol (.mem (.abs (mkWord b1 b2))), .rla (.abs (mkWord b1 b2)) ]

/-- Row 3x of the opcode map (R129). -/
def cells3 (b1 b2 : Byte) : List Instr :=
  [ .bmi b1, .and (.mem (.indY b1)), .kil 0x32, .rla (.indY b1),
    .nopUnofficial 0x34 (.mem (.zpX b1)), .and (.mem (.zpX b1)), .rol (.mem (.zpX b1)), .rla (.zpX b1),
    .sec, .and (.mem (.absY (mkWord b1 b2))), .nopUnofficial 0x3A .implied, .rla (.absY (mkWord b1 b2)),
    .nopUnofficial 0x3C (.mem (.absX (mkWord b1 b2))), .and (.mem (.absX (mkWord b1 b2))), .rol (.mem (.absX (mkWord b1 b2))), .rla (.absX (mkWord b1 b2)) ]

/-- Row 4x of the opcode map (R129). -/
def cells4 (b1 b2 : Byte) : List Instr :=
  [ .rti, .eor (.mem (.indX b1)), .kil 0x42, .sre (.indX b1),
    .nopUnofficial 0x44 (.mem (.zp b1)), .eor (.mem (.zp b1)), .lsr (.mem (.zp b1)), .sre (.zp b1),
    .pha, .eor (.imm b1), .lsr .acc, .alr,
    .jmp (.abs (mkWord b1 b2)), .eor (.mem (.abs (mkWord b1 b2))), .lsr (.mem (.abs (mkWord b1 b2))), .sre (.abs (mkWord b1 b2)) ]

/-- Row 5x of the opcode map (R129). -/
def cells5 (b1 b2 : Byte) : List Instr :=
  [ .bvc b1, .eor (.mem (.indY b1)), .kil 0x52, .sre (.indY b1),
    .nopUnofficial 0x54 (.mem (.zpX b1)), .eor (.mem (.zpX b1)), .lsr (.mem (.zpX b1)), .sre (.zpX b1),
    .cli, .eor (.mem (.absY (mkWord b1 b2))), .nopUnofficial 0x5A .implied, .sre (.absY (mkWord b1 b2)),
    .nopUnofficial 0x5C (.mem (.absX (mkWord b1 b2))), .eor (.mem (.absX (mkWord b1 b2))), .lsr (.mem (.absX (mkWord b1 b2))), .sre (.absX (mkWord b1 b2)) ]

/-- Row 6x of the opcode map (R129). -/
def cells6 (b1 b2 : Byte) : List Instr :=
  [ .rts, .adc (.mem (.indX b1)), .kil 0x62, .rra (.indX b1),
    .nopUnofficial 0x64 (.mem (.zp b1)), .adc (.mem (.zp b1)), .ror (.mem (.zp b1)), .rra (.zp b1),
    .pla, .adc (.imm b1), .ror .acc, .arr,
    .jmp (.ind (mkWord b1 b2)), .adc (.mem (.abs (mkWord b1 b2))), .ror (.mem (.abs (mkWord b1 b2))), .rra (.abs (mkWord b1 b2)) ]

/-- Row 7x of the opcode map (R129). -/
def cells7 (b1 b2 : Byte) : List Instr :=
  [ .bvs b1, .adc (.mem (.indY b1)), .kil 0x72, .rra (.indY b1),
    .nopUnofficial 0x74 (.mem (.zpX b1)), .adc (.mem (.zpX b1)), .ror (.mem (.zpX b1)), .rra (.zpX b1),
    .sei, .adc (.mem (.absY (mkWord b1 b2))), .nopUnofficial 0x7A .implied, .rra (.absY (mkWord b1 b2)),
    .nopUnofficial 0x7C (.mem (.absX (mkWord b1 b2))), .adc (.mem (.absX (mkWord b1 b2))), .ror (.mem (.absX (mkWord b1 b2))), .rra (.absX (mkWord b1 b2)) ]

/-- Row 8x of the opcode map (R129). -/
def cells8 (b1 b2 : Byte) : List Instr :=
  [ .nopUnofficial 0x80 (.imm b1), .sta (.indX b1), .nopUnofficial 0x82 (.imm b1), .sax (.indX b1),
    .sty (.zp b1), .sta (.zp b1), .stx (.zp b1), .sax (.zp b1),
    .dey, .nopUnofficial 0x89 (.imm b1), .txa, .xaa,
    .sty (.abs (mkWord b1 b2)), .sta (.abs (mkWord b1 b2)), .stx (.abs (mkWord b1 b2)), .sax (.abs (mkWord b1 b2)) ]

/-- Row 9x of the opcode map (R129). -/
def cells9 (b1 b2 : Byte) : List Instr :=
  [ .bcc b1, .sta (.indY b1), .kil 0x92, .ahx 0x93,
    .sty (.zpX b1), .sta (.zpX b1), .stx (.zpY b1), .sax (.zpY b1),
    .tya, .sta (.absY (mkWord b1 b2)), .txs, .tas,
    .shy, .sta (.absX (mkWord b1 b2)), .shx, .ahx 0x9F ]

/-- Row Ax of the opcode map (R129). -/
def cellsA (b1 b2 : Byte) : List Instr :=
  [ .ldy (.imm b1), .lda (.mem (.indX b1)), .ldx (.imm b1), .lax (.indX b1),
    .ldy (.mem (.zp b1)), .lda (.mem (.zp b1)), .ldx (.mem (.zp b1)), .lax (.zp b1),
    .tay, .lda (.imm b1), .tax, .lxa,
    .ldy (.mem (.abs (mkWord b1 b2))), .lda (.mem (.abs (mkWord b1 b2))), .ldx (.mem (.abs (mkWord b1 b2))), .lax (.abs (mkWord b1 b2)) ]

/-- Row Bx of the opcode map (R129). -/
def cellsB (b1 b2 : Byte) : List Instr :=
  [ .bcs b1, .lda (.mem (.indY b1)), .kil 0xB2, .lax (.indY b1),
    .ldy (.mem (.zpX b1)), .lda (.mem (.zpX b1)), .ldx (.mem (.zpY b1)), .lax (.zpY b1),
    .clv, .lda (.mem (.absY (mkWord b1 b2))), .tsx, .las,
    .ldy (.mem (.absX (mkWord b1 b2))), .lda (.mem (.absX (mkWord b1 b2))), .ldx (.mem (.absY (mkWord b1 b2))), .lax (.absY (mkWord b1 b2)) ]

/-- Row Cx of the opcode map (R129). -/
def cellsC (b1 b2 : Byte) : List Instr :=
  [ .cpy (.imm b1), .cmp (.mem (.indX b1)), .nopUnofficial 0xC2 (.imm b1), .dcp (.indX b1),
    .cpy (.mem (.zp b1)), .cmp (.mem (.zp b1)), .dec (.zp b1), .dcp (.zp b1),
    .iny, .cmp (.imm b1), .dex, .axs,
    .cpy (.mem (.abs (mkWord b1 b2))), .cmp (.mem (.abs (mkWord b1 b2))), .dec (.abs (mkWord b1 b2)), .dcp (.abs (mkWord b1 b2)) ]

/-- Row Dx of the opcode map (R129). -/
def cellsD (b1 b2 : Byte) : List Instr :=
  [ .bne b1, .cmp (.mem (.indY b1)), .kil 0xD2, .dcp (.indY b1),
    .nopUnofficial 0xD4 (.mem (.zpX b1)), .cmp (.mem (.zpX b1)), .dec (.zpX b1), .dcp (.zpX b1),
    .cld, .cmp (.mem (.absY (mkWord b1 b2))), .nopUnofficial 0xDA .implied, .dcp (.absY (mkWord b1 b2)),
    .nopUnofficial 0xDC (.mem (.absX (mkWord b1 b2))), .cmp (.mem (.absX (mkWord b1 b2))), .dec (.absX (mkWord b1 b2)), .dcp (.absX (mkWord b1 b2)) ]

/-- Row Ex of the opcode map (R129). -/
def cellsE (b1 b2 : Byte) : List Instr :=
  [ .cpx (.imm b1), .sbc (.mem (.indX b1)), .nopUnofficial 0xE2 (.imm b1), .isb (.indX b1),
    .cpx (.mem (.zp b1)), .sbc (.mem (.zp b1)), .inc (.zp b1), .isb (.zp b1),
    .inx, .sbc (.imm b1), .nop, .sbcEB b1,
    .cpx (.mem (.abs (mkWord b1 b2))), .sbc (.mem (.abs (mkWord b1 b2))), .inc (.abs (mkWord b1 b2)), .isb (.abs (mkWord b1 b2)) ]

/-- Row Fx of the opcode map (R129). -/
def cellsF (b1 b2 : Byte) : List Instr :=
  [ .beq b1, .sbc (.mem (.indY b1)), .kil 0xF2, .isb (.indY b1),
    .nopUnofficial 0xF4 (.mem (.zpX b1)), .sbc (.mem (.zpX b1)), .inc (.zpX b1), .isb (.zpX b1),
    .sed, .sbc (.mem (.absY (mkWord b1 b2))), .nopUnofficial 0xFA .implied, .isb (.absY (mkWord b1 b2)),
    .nopUnofficial 0xFC (.mem (.absX (mkWord b1 b2))), .sbc (.mem (.absX (mkWord b1 b2))), .inc (.absX (mkWord b1 b2)), .isb (.absX (mkWord b1 b2)) ]

/-- The sixteen cells whose opcode has the given high nibble. -/
def cellBlock (hi : Nat) (b1 b2 : Byte) : List Instr :=
  match hi with
  | 0 => cells0 b1 b2
  | 1 => cells1 b1 b2
  | 2 => cells2 b1 b2
  | 3 => cells3 b1 b2
  | 4 => cells4 b1 b2
  | 5 => cells5 b1 b2
  | 6 => cells6 b1 b2
  | 7 => cells7 b1 b2
  | 8 => cells8 b1 b2
  | 9 => cells9 b1 b2
  | 10 => cellsA b1 b2
  | 11 => cellsB b1 b2
  | 12 => cellsC b1 b2
  | 13 => cellsD b1 b2
  | 14 => cellsE b1 b2
  | _ => cellsF b1 b2

/-- The instruction an opcode byte selects, with the operand bytes the machine has read for it (R123, R129). Operand bytes the
format does not have are ignored; the default is never taken. -/
def decodeOp (op b1 b2 : Byte) : Instr :=
  (cellBlock (op.toNat / 16) b1 b2).getD (op.toNat % 16) (.kil op)

/-- How many operand bytes the machine reads after the opcode byte: the row's size less one, but none for BRK, whose padding
byte is not read (R150, R253), and none for a halting row (R291). -/
def operandBytes (op : Byte) : Nat :=
  if op = 0x00 ∨ (rowOf op).cls = .halting then 0 else (rowOf op).size - 1

/-- Why a list of bytes holds no instruction. Every opcode byte is a row, so only missing bytes are rejected. -/
inductive DecodeError where
  /-- There is no byte at all. -/
  | noOpcode
  /-- The list ends before the operand bytes of this opcode. -/
  | missingOperand (op : Byte)
  deriving DecidableEq, Repr

/-- The instruction at the head of a list of bytes; what follows it is not looked at (R120). -/
def decode : List Byte → Except DecodeError Instr
  | [] => .error .noOpcode
  | op :: rest =>
    match operandBytes op, rest with
    | 0, _ => .ok (decodeOp op 0 0)
    | 1, b1 :: _ => .ok (decodeOp op b1 0)
    | _ + 2, b1 :: b2 :: _ => .ok (decodeOp op b1 b2)
    | _, _ => .error (.missingOperand op)

/-! ## Encoding -/

/-- The one of eight opcodes that the format selects, in the order zp; zp,X; zp,Y; abs; abs,X; abs,Y; (zp,X); (zp),Y. A form
the instruction does not have is given 0x00 below. -/
def AddrMode.pick (m : AddrMode) (z zx zy a ax ay ix iy : Byte) : Byte :=
  match m with
  | .zp _ => z
  | .zpX _ => zx
  | .zpY _ => zy
  | .abs _ => a
  | .absX _ => ax
  | .absY _ => ay
  | .indX _ => ix
  | .indY _ => iy

/-- As `AddrMode.pick`, with the opcode of the immediate form first. -/
def ReadOperand.pick (m : ReadOperand) (i z zx zy a ax ay ix iy : Byte) : Byte :=
  match m with
  | .imm _ => i
  | .mem m => m.pick z zx zy a ax ay ix iy

/-- The opcode of a shift: accumulator; zp; zp,X; abs; abs,X. -/
def ShiftOperand.pick (m : ShiftOperand) (acc z zx a ax : Byte) : Byte :=
  match m with
  | .acc => acc
  | .mem m => m.pick z zx 0x00 a ax 0x00 0x00 0x00

/-- The opcode byte, from the "Encoding" line of each instruction's rule (R180 to R291). -/
def Instr.opcode : Instr → Byte
  | .lda m => m.pick 0xA9 0xA5 0xB5 0x00 0xAD 0xBD 0xB9 0xA1 0xB1
  | .ldx m => m.pick 0xA2 0xA6 0x00 0xB6 0xAE 0x00 0xBE 0x00 0x00
  | .ldy m => m.pick 0xA0 0xA4 0xB4 0x00 0xAC 0xBC 0x00 0x00 0x00
  | .sta m => m.pick 0x85 0x95 0x00 0x8D 0x9D 0x99 0x81 0x91
  | .stx m => m.pick 0x86 0x00 0x96 0x8E 0x00 0x00 0x00 0x00
  | .sty m => m.pick 0x84 0x94 0x00 0x8C 0x00 0x00 0x00 0x00
  | .tax => 0xAA
  | .tay => 0xA8
  | .txa => 0x8A
  | .tya => 0x98
  | .tsx => 0xBA
  | .txs => 0x9A
  | .adc m => m.pick 0x69 0x65 0x75 0x00 0x6D 0x7D 0x79 0x61 0x71
  | .sbc m => m.pick 0xE9 0xE5 0xF5 0x00 0xED 0xFD 0xF9 0xE1 0xF1
  | .and m => m.pick 0x29 0x25 0x35 0x00 0x2D 0x3D 0x39 0x21 0x31
  | .ora m => m.pick 0x09 0x05 0x15 0x00 0x0D 0x1D 0x19 0x01 0x11
  | .eor m => m.pick 0x49 0x45 0x55 0x00 0x4D 0x5D 0x59 0x41 0x51
  | .cmp m => m.pick 0xC9 0xC5 0xD5 0x00 0xCD 0xDD 0xD9 0xC1 0xD1
  | .cpx m => m.pick 0xE0 0xE4 0x00 0x00 0xEC 0x00 0x00 0x00 0x00
  | .cpy m => m.pick 0xC0 0xC4 0x00 0x00 0xCC 0x00 0x00 0x00 0x00
  | .bit m => m.pick 0x24 0x00 0x00 0x2C 0x00 0x00 0x00 0x00
  | .inc m => m.pick 0xE6 0xF6 0x00 0xEE 0xFE 0x00 0x00 0x00
  | .dec m => m.pick 0xC6 0xD6 0x00 0xCE 0xDE 0x00 0x00 0x00
  | .inx => 0xE8
  | .iny => 0xC8
  | .dex => 0xCA
  | .dey => 0x88
  | .asl m => m.pick 0x0A 0x06 0x16 0x0E 0x1E
  | .lsr m => m.pick 0x4A 0x46 0x56 0x4E 0x5E
  | .rol m => m.pick 0x2A 0x26 0x36 0x2E 0x3E
  | .ror m => m.pick 0x6A 0x66 0x76 0x6E 0x7E
  | .bpl _ => 0x10
  | .bmi _ => 0x30
  | .bvc _ => 0x50
  | .bvs _ => 0x70
  | .bcc _ => 0x90
  | .bcs _ => 0xB0
  | .bne _ => 0xD0
  | .beq _ => 0xF0
  | .jmp (.abs _) => 0x4C
  | .jmp (.ind _) => 0x6C
  | .jsr _ => 0x20
  | .rts => 0x60
  | .rti => 0x40
  | .brk => 0x00
  | .pha => 0x48
  | .php => 0x08
  | .pla => 0x68
  | .plp => 0x28
  | .clc => 0x18
  | .sec => 0x38
  | .cli => 0x58
  | .sei => 0x78
  | .cld => 0xD8
  | .sed => 0xF8
  | .clv => 0xB8
  | .nop => 0xEA
  | .nopUnofficial op _ => op
  | .lax m => m.pick 0xA7 0x00 0xB7 0xAF 0x00 0xBF 0xA3 0xB3
  | .sax m => m.pick 0x87 0x00 0x97 0x8F 0x00 0x00 0x83 0x00
  | .sbcEB _ => 0xEB
  | .dcp m => m.pick 0xC7 0xD7 0x00 0xCF 0xDF 0xDB 0xC3 0xD3
  | .isb m => m.pick 0xE7 0xF7 0x00 0xEF 0xFF 0xFB 0xE3 0xF3
  | .slo m => m.pick 0x07 0x17 0x00 0x0F 0x1F 0x1B 0x03 0x13
  | .rla m => m.pick 0x27 0x37 0x00 0x2F 0x3F 0x3B 0x23 0x33
  | .sre m => m.pick 0x47 0x57 0x00 0x4F 0x5F 0x5B 0x43 0x53
  | .rra m => m.pick 0x67 0x77 0x00 0x6F 0x7F 0x7B 0x63 0x73
  | .kil op => op
  | .anc op => op
  | .alr => 0x4B
  | .arr => 0x6B
  | .xaa => 0x8B
  | .ahx op => op
  | .tas => 0x9B
  | .shy => 0x9C
  | .shx => 0x9E
  | .lxa => 0xAB
  | .las => 0xBB
  | .axs => 0xCB

/-- A 16-bit operand as its two bytes, low byte first (R122). -/
def wordBytes (w : Word) : List Byte := [loByte w, hiByte w]

/-- The operand bytes of a format (R121). -/
def AddrMode.bytes : AddrMode → List Byte
  | .zp b | .zpX b | .zpY b | .indX b | .indY b => [b]
  | .abs w | .absX w | .absY w => wordBytes w

/-- The operand bytes of a read operand. -/
def ReadOperand.bytes : ReadOperand → List Byte
  | .imm b => [b]
  | .mem m => m.bytes

/-- The operand bytes of a shift operand. -/
def ShiftOperand.bytes : ShiftOperand → List Byte
  | .acc => []
  | .mem m => m.bytes

/-- The operand bytes of an unofficial NOP. -/
def NopOperand.bytes : NopOperand → List Byte
  | .implied => []
  | .imm b => [b]
  | .mem m => m.bytes

/-- The operand bytes, as many as the row's size says (R121, R126). The bytes the machine never reads, BRK's padding byte and
those of a halting opcode, are written as 0x00. -/
def Instr.operands : Instr → List Byte
  | .lda m | .ldx m | .ldy m | .adc m | .sbc m | .and m | .ora m | .eor m | .cmp m | .cpx m | .cpy m => m.bytes
  | .sta m | .stx m | .sty m | .bit m | .inc m | .dec m => m.bytes
  | .lax m | .sax m | .dcp m | .isb m | .slo m | .rla m | .sre m | .rra m => m.bytes
  | .asl m | .lsr m | .rol m | .ror m => m.bytes
  | .nopUnofficial _ m => m.bytes
  | .bpl d | .bmi d | .bvc d | .bvs d | .bcc d | .bcs d | .bne d | .beq d => [d]
  | .jmp (.abs w) | .jmp (.ind w) | .jsr w => wordBytes w
  | .sbcEB b => [b]
  | .brk => [0x00]
  | .anc _ | .alr | .arr | .xaa | .lxa | .axs => [0x00]
  | .ahx op => if op = 0x93 then [0x00] else [0x00, 0x00]
  | .tas | .shy | .shx | .las => [0x00, 0x00]
  | .tax | .tay | .txa | .tya | .tsx | .txs | .inx | .iny | .dex | .dey => []
  | .rts | .rti | .pha | .php | .pla | .plp | .clc | .sec | .cli | .sei | .cld | .sed | .clv | .nop | .kil _ => []

/-- The bytes of an instruction, at rising addresses (R120). -/
def encode (i : Instr) : List Byte := i.opcode :: i.operands

/-- The size of an instruction in bytes: its encoding's length, which is the `size` column of its row (R121, R126). -/
def Instr.size (i : Instr) : Nat := 1 + i.operands.length

/-- The row of the decode table that a well-formed instruction stands in (R130). -/
def Instr.row (i : Instr) : Row := rowOf i.opcode

/-- The bytes, at rising addresses, of the instruction whose bits are `w`, bit 0 the least significant bit of the first byte,
every bit from `nbits` on zero. No instruction is longer than three bytes (R120). -/
def tableBytes (nbits w : Nat) : List Byte :=
  [BitVec.ofNat 8 (w % 2 ^ nbits), BitVec.ofNat 8 (w % 2 ^ nbits / 256), BitVec.ofNat 8 (w % 2 ^ nbits / 65536)]

/-- What the decoder reads from an instruction whose bits are numbered as spec/opcode_table.json numbers them. -/
def decodeTableWord (nbits w : Nat) : Option Instr :=
  match decode (tableBytes nbits w) with
  | .ok i => some i
  | .error _ => none

end Sys2Proof
end

