-- ==== Sys2Proof/Machine/State.lean ====
section
/-! DEFINITION. The state of the machine (spec/10_state.md), the ways a step can stop, and the state after reset
(spec/70_reset_and_hazards.md R440 to R445). Plain data only. -/

namespace Sys2Proof.Machine

/-- A finite map in canonical form: keys strictly rising, and no entry equal to what an unlisted key reads as. Its operations
are in Machine/Memory.lean. -/
abbrev Sparse (α : Type) := List (Nat × α)

/-- A memory: the bytes that differ from 0x00, by rising address. What an unlisted address reads as is 0x00 (log entry 5). -/
abbrev Memory := List Host.Cell

/-- An interrupt request in the pending cell (R26). -/
inductive Interrupt where
  | nmi
  | irq
  deriving DecidableEq, Repr

/-- The direction of an access (R45). -/
inductive AccessKind where
  | read
  | write
  deriving DecidableEq, Repr

/-- A record of the sticky fault log (R45). -/
inductive FaultRecord where
  | busFault (addr : Word) (kind : AccessKind)
  | halt (opcode : Byte)
  deriving DecidableEq, Repr

/-- A load-time diagnostic (R45, R101, R102). -/
inductive LoadWarning where
  | mapperFallback (id : Byte)
  | truncatedBody (len : Nat)
  deriving DecidableEq, Repr

/-- The two mappers (R43): mapper 0 and mapper 1. -/
inductive MapperKind where
  | fixed
  | shiftBanked
  deriving DecidableEq, Repr

/-- The nametable mirroring modes (R44, R81). -/
inductive Mirror where
  | horizontal
  | vertical
  | single0
  | single1
  deriving DecidableEq, Repr

/-- An entry of the sprite line buffer (R40). -/
inductive SpritePixel where
  | transparent
  /-- `Opaque{pal, pat, zero}`. -/
  | solid (pal pat : BitVec 2) (zero : Bool)
  deriving DecidableEq, Repr

/-- The host's moves between two iterations of the driver loop (R423) that touch the core's state or end the run, and `run`,
which is one iteration. The list of them in State is the model's own (log entry 9). -/
inductive HostMove where
  /-- One iteration of the driver loop (R420). -/
  | run
  /-- `RaiseIRQ()` (R404). -/
  | raiseIRQ
  /-- `reset()` (R441, R442). -/
  | reset
  /-- The host quits (R423). -/
  | quit
  deriving DecidableEq, Repr

/-- The PPU's state (R30). -/
structure Ppu where
  /-- Port 0x2000 (R31). -/
  ctrl : Byte
  /-- Port 0x2001 (R32). -/
  mask : Byte
  vblank : Bool
  sprite0Hit : Bool
  spriteOverflow : Bool
  oamAddr : Byte
  /-- 256 bytes (R34). -/
  oam : Memory
  /-- Current VRAM address (R35). -/
  v : BitVec 15
  /-- Temporary VRAM address (R35). -/
  t : BitVec 15
  /-- Fine X (R36). -/
  x : BitVec 3
  /-- The write toggle (R36). -/
  w : Bool
  readBuffer : Byte
  /-- 0 to 340 (R38). -/
  cycle : Nat
  /-- 0 to 261 (R38). -/
  scanline : Nat
  ntByte : Byte
  /-- The 2-bit attribute value, shifted left by 2 (R39). -/
  atBits : Byte
  patLo : Byte
  patHi : Byte
  /-- 16 pixels of 4 bits (R39). -/
  tileData : BitVec 64
  /-- 256 entries; an unlisted one is transparent (R40). -/
  spriteLine : Sparse SpritePixel
  /-- 240 rows of 256 six-bit values, at 256·y + x; an unlisted one is 0 (R41). -/
  frame0 : Sparse (BitVec 6)
  frame1 : Sparse (BitVec 6)
  /-- Which frame is the presentation side (R41). -/
  front : BitVec 1
  deriving DecidableEq, Repr

/-- The cartridge and its mapper (R43, R44). -/
structure Cart where
  kind : MapperKind
  /-- PRG-ROM size in 16KB units. -/
  nPrg : Nat
  /-- CHR-ROM size in 8KB units. -/
  nChr : Nat
  prg : Memory
  chr : Memory
  /-- 8KB save RAM. -/
  prgRam : Memory
  mirror : Mirror
  shift : BitVec 5
  control : BitVec 5
  chr0 : BitVec 5
  chr1 : BitVec 5
  prgReg : BitVec 5
  deriving DecidableEq, Repr

/-- The state of the machine. The last five fields are the model's own (log entries 2, 3, 8 and 9). -/
structure State where
  -- the CPU (R20 to R25)
  a : Byte
  x : Byte
  y : Byte
  sp : Byte
  /-- The status register, laid out as R23 says. -/
  p : Byte
  pc : Word
  running : Bool
  haltCause : Option Byte
  /-- The pending-interrupt cell (R26). -/
  pending : Option Interrupt
  /-- Internal RAM, 2KB (R27). -/
  ram : Memory
  /-- Nametable RAM, 2KB (R42). -/
  ntRam : Memory
  /-- Palette RAM, 32 bytes (R42). -/
  palRam : Memory
  /-- The controller port (R28). -/
  strobe : BitVec 1
  index : BitVec 3
  ppu : Ppu
  cart : Cart
  /-- The sticky fault log, oldest first (R45). -/
  faults : List FaultRecord
  /-- Load-time fallbacks, oldest first (R45). -/
  loadDiag : List LoadWarning
  /-- The launch parameters (R6); no step changes them. -/
  params : Params
  /-- How many draws have been taken. -/
  draws : Nat
  /-- The cycle count the CPU tick in progress returns to the driver loop (R152); 0 between two iterations. -/
  cycles : Nat
  /-- The host moves still to come, next first; when it is empty the host only runs the loop. -/
  host : List HostMove
  /-- The host has quit (R420, R423). -/
  quit : Bool
  deriving DecidableEq, Repr

/-- What stops the machine. Each is raised by a step in a state in which R406 and R420 say that no agent has a step; none is
raised by an instruction. Safe: the spec has no step there either. -/
inductive Fault where
  /-- Raised by `step` when `running` is false (R140, R401); it carries `haltCause`. Safe. -/
  | halted (cause : Option Byte)
  /-- Raised by `step` under the halt policy when the fault log holds a bus fault (R400, R420). Safe. -/
  | busFaultHalt
  /-- Raised by `step` after the host has quit (R420). Safe. -/
  | hostQuit
  deriving DecidableEq, Repr

/-- Why a step has no meaning. Safe: nothing is claimed of what follows. -/
inductive Refusal where
  /-- Raised by an arm of `exec` whose instruction has no meaning yet; no arm does. Safe. -/
  | notModelled (mnemonic : String)
  deriving DecidableEq, Repr

/-- What a piece of an instruction comes to: it goes on with a value and a state, or the CPU step has ended at an access that
faulted under the halt policy, with the effects made until then (R159, R400). -/
inductive Bus (α : Type) where
  | ok (v : α) (s : State)
  | stop (s : State)

/-- The PPU after `reset()` with power-on memories (R30, R442). -/
def Ppu.initial : Ppu :=
  { ctrl := 0, mask := 0, vblank := false, sprite0Hit := false, spriteOverflow := false, oamAddr := 0, oam := [], v := 0, t := 0,
    x := 0, w := false, readBuffer := 0, cycle := 0, scanline := 0, ntByte := 0, atBits := 0, patLo := 0, patHi := 0,
    tileData := 0, spriteLine := [], frame0 := [], frame1 := [], front := 0 }

/-- A cartridge of mapper 0 with two PRG banks and one CHR bank that hold no program: the start state of
spec/95_test_vectors.md without instruction bytes. DESIGN CHOICE (log entry 7), unsafe. -/
def Cart.blank : Cart :=
  { kind := .fixed, nPrg := 2, nChr := 1, prg := [], chr := [], prgRam := [], mirror := .horizontal, shift := 0b10000,
    control := 0x0C, chr0 := 0, chr1 := 0, prgReg := 0 }

/-- The machine right after `loadGame` of a cartridge that holds no program, and `reset()` (R440, R441, R442, R445). The pc is
the word at 0xFFFC of that cartridge. Memories hold the reference simulator's fill, 0x00 (log entry 5). -/
def State.reset : State :=
  { a := 0, x := 0, y := 0, sp := 0xFD, p := 0x24, pc := 0x0000, running := true, haltCause := none, pending := none, ram := [],
    ntRam := [], palRam := [], strobe := 0, index := 0, ppu := Ppu.initial, cart := Cart.blank, faults := [], loadDiag := [],
    params := Params.reference, draws := 0, cycles := 0, host := [], quit := false }

end Sys2Proof.Machine
end

