-- ==== Sys2Proof/Machine/Flags.lean ====
section
/-! DEFINITION. The status register and every flag computation (spec/10_state.md R23, R24, spec/40_cpu_engine.md R154 to
R158). -/

namespace Sys2Proof.Machine

/-- The six flags (R23). -/
inductive Flag where
  | c | z | i | d | v | n
  deriving DecidableEq, Repr

/-- The flag's place in P (R23). -/
def Flag.place : Flag → Nat
  | .c => 0
  | .z => 1
  | .i => 2
  | .d => 3
  | .v => 6
  | .n => 7

/-- A byte with the flag's bit alone set. -/
def Flag.mask : Flag → Byte
  | .c => 0x01
  | .z => 0x02
  | .i => 0x04
  | .d => 0x08
  | .v => 0x40
  | .n => 0x80

/-- The flag's value in the status byte `p`. -/
def getFlag (f : Flag) (p : Byte) : Bool := p.getLsbD f.place

/-- The status byte with one flag written; the other bits stay. -/
def putFlag (f : Flag) (b : Bool) (p : Byte) : Byte := if b then p ||| f.mask else p &&& ~~~f.mask

/-- `SetZN(r)` on a status byte (R11, R154). -/
def setZN (r p : Byte) : Byte := putFlag .n (r.getLsbD 7) (putFlag .z (r == 0) p)

/-- A write of a byte to P (R23): bits 5 and 4 of `b` are not taken, bit 5 stays 1 and bit 4 stays 0. -/
def statusFromByte (b : Byte) : Byte := (b &&& 0xCF) ||| 0x20

/-- The status byte as PHP and BRK push it (R253, R261). -/
def statusPushedBySoftware (p : Byte) : Byte := p ||| 0x30

/-- The status byte as interrupt service pushes it (R402). -/
def statusPushedByInterrupt (p : Byte) : Byte := (p &&& 0xEF) ||| 0x20

/-- The value of a flag in the live P. -/
def State.flag (f : Flag) (s : State) : Bool := getFlag f s.p

/-- `P.f <- b`. -/
def State.setFlag (f : Flag) (b : Bool) (s : State) : State := { s with p := putFlag f b s.p }

/-- `SetZN(r)` (R11). -/
def State.setZN (r : Byte) (s : State) : State := { s with p := Sys2Proof.Machine.setZN r s.p }

/-- `A <- r; SetZN(r)`. -/
def State.loadA (r : Byte) (s : State) : State := { s with a := r }.setZN r

/-- `X <- r; SetZN(r)`. -/
def State.loadX (r : Byte) (s : State) : State := { s with x := r }.setZN r

/-- `Y <- r; SetZN(r)`. -/
def State.loadY (r : Byte) (s : State) : State := { s with y := r }.setZN r

/-! The values the cores compute, of the operands and the carry alone. -/

/-- "result = A + operand + Carry (9-bit)", before it is cut to 8 bits (R155). -/
def addSum (a m : Byte) (c : Bool) : Nat := a.toNat + m.toNat + bit c

/-- The 8-bit result of the addition (R155). -/
def addResult (a m : Byte) (c : Bool) : Byte := BitVec.ofNat 8 (addSum a m c)

/-- "Carry = bit 8 of result" (R155). -/
def addCarry (a m : Byte) (c : Bool) : Bool := (addSum a m c).testBit 8

/-- The "sign-bit mismatch test ~(A⊕operand) & (A⊕result) & 0x80" (R155). -/
def addOverflow (a m : Byte) (c : Bool) : Bool := (~~~(a ^^^ m) &&& (a ^^^ addResult a m c) &&& 0x80) != 0

/-- AddCore (R155). The D flag is not read. -/
def State.addCore (m : Byte) (s : State) : State :=
  let c := s.flag .c
  let r := addResult s.a m c
  ((({ s with a := r }.setFlag .c (addCarry s.a m c)).setFlag .v (addOverflow s.a m c))).setZN r

/-- SubCore: AddCore of the operand's one's complement (R156). -/
def State.subCore (m : Byte) (s : State) : State := s.addCore (m ^^^ 0xFF)

/-- CompareCore (R157); `src` is A, X or Y. V is not written. -/
def State.compareCore (src m : Byte) (s : State) : State :=
  (s.setFlag .c (decide (m.toNat ≤ src.toNat))).setZN (src - m)

/-- The four shift cores (R158): the result of shifting `m` with carry `c` in, and the bit shifted out. -/
inductive ShiftKind where
  | asl | lsr | rol | ror
  deriving DecidableEq, Repr

/-- The byte a shift core returns (R158). -/
def shiftResult (k : ShiftKind) (m : Byte) (c : Bool) : Byte :=
  match k with
  | .asl => m <<< 1
  | .lsr => m >>> 1
  | .rol => (m <<< 1) ||| BitVec.ofNat 8 (bit c)
  | .ror => (m >>> 1) ||| (BitVec.ofNat 8 (bit c) <<< 7)

/-- "Carry receives the bit shifted out" (R158). -/
def shiftCarry (k : ShiftKind) (m : Byte) : Bool :=
  match k with
  | .asl | .rol => m.getLsbD 7
  | .lsr | .ror => m.getLsbD 0

/-- A shift core: the result, and the state with the carry written (R158). -/
def State.shiftCore (k : ShiftKind) (m : Byte) (s : State) : Byte × State :=
  (shiftResult k m (s.flag .c), s.setFlag .c (shiftCarry k m))

/-- BIT's flags (R208): Z from `A & m`, N and V copied from the operand. -/
def State.bitTest (m : Byte) (s : State) : State :=
  ((s.setFlag .z ((s.a &&& m) == 0)).setFlag .n (m.getLsbD 7)).setFlag .v (m.getLsbD 6)

end Sys2Proof.Machine
end

