-- ==== Sys2Proof/Machine/Memory.lean ====
section
/-! DEFINITION. Finite maps and memories in canonical form. -/

namespace Sys2Proof.Machine

/-- What key `k` reads as; `d` is what an unlisted key reads as. -/
def Sparse.get {α : Type} (d : α) : Sparse α → Nat → α
  | [], _ => d
  | (k', v) :: rest, k => if k' = k then v else Sparse.get d rest k

/-- Writes `v` at key `k`, keeping the canonical form: writing `d` removes the entry. -/
def Sparse.set {α : Type} [DecidableEq α] (d : α) : Sparse α → Nat → α → Sparse α
  | [], k, v => if v = d then [] else [(k, v)]
  | (k', v') :: rest, k, v =>
    if k < k' then (if v = d then (k', v') :: rest else (k, v) :: (k', v') :: rest)
    else if k' = k then (if v = d then rest else (k, v) :: rest)
    else (k', v') :: Sparse.set d rest k v

/-- The keys are at least `lo` and below `n`, strictly rising, and no entry holds `d`. -/
def Sparse.wfFrom {α : Type} [DecidableEq α] (d : α) (n : Nat) : Nat → Sparse α → Bool
  | _, [] => true
  | lo, (k, v) :: rest => decide (lo ≤ k) && decide (k < n) && decide (v ≠ d) && Sparse.wfFrom d n (k + 1) rest

/-- The canonical form of a map with the keys 0 to n - 1. -/
def Sparse.wf {α : Type} [DecidableEq α] (d : α) (n : Nat) (m : Sparse α) : Bool := Sparse.wfFrom d n 0 m

/-- What an unlisted address of a memory reads as (log entry 5). -/
def Memory.unlisted : Byte := 0x00

/-- The byte at an address. -/
def Memory.read (m : Memory) (a : Nat) : Byte := Sparse.get Memory.unlisted m a

/-- The memory with a byte written. -/
def Memory.write (m : Memory) (a : Nat) (v : Byte) : Memory := Sparse.set Memory.unlisted m a v

/-- The memory is in canonical form and has no address outside 0 to n - 1. -/
def Memory.wf (m : Memory) (n : Nat) : Bool := Sparse.wf Memory.unlisted n m

/-- The memory that holds the given bytes from address `a` on, in canonical form. -/
def Memory.ofBytes (a : Nat) : List Byte → Memory
  | [] => []
  | v :: rest => if v = Memory.unlisted then Memory.ofBytes (a + 1) rest else (a, v) :: Memory.ofBytes (a + 1) rest

/-- Writes bytes at rising addresses. -/
def Memory.writeBytes (m : Memory) (a : Nat) : List Byte → Memory
  | [] => m
  | v :: rest => Memory.writeBytes (m.write a v) (a + 1) rest

end Sys2Proof.Machine
end

