-- ==== Sys2Proof/Machine/Mapper.lean ====
section
/-! DEFINITION. The two mappers: CPU-side and PPU-side accesses, the serial port and its registers, and nametable mirroring
(spec/20_memory.md R81, R85 to R95). -/

namespace Sys2Proof.Machine

/-- The number of PRG-ROM bytes (R43). -/
def Cart.prgSize (c : Cart) : Nat := 16384 * c.nPrg

/-- The number of CHR-ROM bytes (R43). -/
def Cart.chrSize (c : Cart) : Nat := 8192 * c.nChr

/-- The PRG mode, control bits 3:2 (R92). -/
def Cart.prgMode (c : Cart) : Nat := (c.control.toNat / 4) % 4

/-- The 16KB bank that mapper 1 maps at 0x8000 to 0xBFFF, before the modulo (R93). -/
def Cart.prgLowBank (c : Cart) : Nat :=
  if c.prgMode ≤ 1 then c.prgReg.toNat &&& 0x0E
  else if c.prgMode = 2 then 0
  else c.prgReg.toNat &&& 0x0F

/-- The 16KB bank that mapper 1 maps at 0xC000 to 0xFFFF, before the modulo (R93). -/
def Cart.prgHighBank (c : Cart) : Nat :=
  if c.prgMode ≤ 1 then (c.prgReg.toNat &&& 0x0E) + 1
  else if c.prgMode = 2 then c.prgReg.toNat &&& 0x0F
  else c.nPrg - 1

/-- Which PRG byte a CPU address from 0x8000 on reads (R86, R93). -/
def Cart.prgIndex (c : Cart) (a : Word) : Nat :=
  match c.kind with
  | .fixed => (a.toNat - 0x8000) % c.prgSize
  | .shiftBanked =>
    if a.toNat ≤ 0xBFFF then (c.prgLowBank % c.nPrg) * 0x4000 + a.toNat % 0x4000
    else (c.prgHighBank % c.nPrg) * 0x4000 + a.toNat % 0x4000

/-- `MapperCpuRead(a)` for a ≥ 0x6000 (R86, R90, R93). It has no side effect. -/
def Cart.cpuRead (c : Cart) (a : Word) : Byte :=
  if a.toNat ≤ 0x7FFF then c.prgRam.read (a.toNat - 0x6000) else c.prg.read (c.prgIndex a)

/-- The mirroring mode that bits 1:0 of Control select (R92). -/
def mirrorOfControl (value : BitVec 5) : Mirror :=
  match value.toNat % 4 with
  | 0 => .single0
  | 1 => .single1
  | 2 => .vertical
  | _ => .horizontal

/-- `Dispatch(a, value)` (R92): the register is chosen by address bits 14:13. -/
def Cart.dispatch (c : Cart) (a : Word) (value : BitVec 5) : Cart :=
  match (a.toNat / 0x2000) % 4 with
  | 0 => { c with control := value, mirror := mirrorOfControl value }
  | 1 => { c with chr0 := value }
  | 2 => { c with chr1 := value }
  | _ => { c with prgReg := value }

/-- The shift register after one data bit has come in at the top (R91). -/
def shiftIn (shift : BitVec 5) (d : Byte) : BitVec 5 := (shift >>> 1) ||| (BitVec.ofNat 5 (d.toNat % 2) <<< 4)

/-- `SerialWrite(a, d)` (R91). -/
def Cart.serialWrite (c : Cart) (a : Word) (d : Byte) : Cart :=
  if d.getLsbD 7 then { c with shift := 0b10000, control := c.control ||| 0x0C }
  else if c.shift.getLsbD 0 then { c.dispatch a (shiftIn c.shift d) with shift := 0b10000 }
  else { c with shift := shiftIn c.shift d }

/-- `MapperCpuWrite(a, d)` for a ≥ 0x6000 (R87, R90, R91). -/
def Cart.cpuWrite (c : Cart) (a : Word) (d : Byte) : Cart :=
  if a.toNat ≤ 0x7FFF then { c with prgRam := c.prgRam.write (a.toNat - 0x6000) d }
  else
    match c.kind with
    | .fixed => c
    | .shiftBanked => c.serialWrite a d

/-- The CHR mode, control bit 4 (R92). -/
def Cart.chrSplit (c : Cart) : Bool := c.control.getLsbD 4

/-- Which CHR byte a pattern-table address reads (R88, R94). In CHR mode 0 the low bit of chr0 is not cleared (C3). -/
def Cart.chrIndex (c : Cart) (a : Nat) : Nat :=
  match c.kind with
  | .fixed => a % c.chrSize
  | .shiftBanked =>
    if a ≤ 0x0FFF then (c.chr0.toNat % (2 * c.nChr)) * 0x1000 + a % 0x1000
    else if c.chrSplit then (c.chr1.toNat % (2 * c.nChr)) * 0x1000 + a % 0x1000
    else ((c.chr0.toNat + 1) % (2 * c.nChr)) * 0x1000 + a % 0x1000

/-- `MapperPpuRead(a)` for a ≤ 0x1FFF (R88, R94). -/
def Cart.ppuRead (c : Cart) (a : Nat) : Byte := c.chr.read (c.chrIndex a)

/-- `MapperPpuWrite(a, d)`: CHR is ROM under both mappers, so there is no effect (R88, R95). -/
def Cart.ppuWrite (c : Cart) (_a : Nat) (_d : Byte) : Cart := c

/-- Which physical nametable backs logical table `q` (R81). -/
def Mirror.table (m : Mirror) (q : Nat) : Nat :=
  match m with
  | .horizontal => q / 2
  | .vertical => q % 2
  | .single0 => 0
  | .single1 => 1

/-- `GetMirroringTable(a)` (R81, R95). -/
def Cart.mirroringTable (c : Cart) (a : Nat) : Nat := c.mirror.table ((a / 0x400) % 4)

/-- `NtIndex(a)` (R81). -/
def Cart.ntIndex (c : Cart) (a : Nat) : Nat := c.mirroringTable a * 0x400 + a % 0x400

/-- `PalIndex(a)` (R82). -/
def palIndex (a : Nat) : Nat :=
  let i := a % 0x20
  if i = 0x10 ∨ i = 0x14 ∨ i = 0x18 ∨ i = 0x1C then i - 0x10 else i

end Sys2Proof.Machine
end

