-- ==== Sys2Proof/Machine/Ports.lean ====
section
/-! DEFINITION. The PPU bus and the eight CPU-visible ports of the PPU (spec/20_memory.md R80 to R82, spec/50_ppu.md R301 to
R309), and the controller port (R330). -/

namespace Sys2Proof.Machine

/-- A change of the PPU's own state. -/
def State.setPpu (q : Ppu) (s : State) : State := { s with ppu := q }

/-- A draw has been taken (R10). -/
def State.nextDraw (s : State) : State := { s with draws := s.draws + 1 }

/-! ## The PPU bus -/

/-- `PpuRead(a)` (R80). It has no side effect. -/
def ppuRead (a : Word) (s : State) : Byte :=
  let n := a.toNat % 0x4000
  if n ≤ 0x1FFF then s.cart.ppuRead n
  else if n ≤ 0x3EFF then s.ntRam.read (s.cart.ntIndex n)
  else s.palRam.read (palIndex n)

/-- `PpuWrite(a, d)` (R80). -/
def ppuWrite (a : Word) (d : Byte) (s : State) : State :=
  let n := a.toNat % 0x4000
  if n ≤ 0x1FFF then { s with cart := s.cart.ppuWrite n d }
  else if n ≤ 0x3EFF then { s with ntRam := s.ntRam.write (s.cart.ntIndex n) d }
  else { s with palRam := s.palRam.write (palIndex n) d }

/-- `v` as a PPU-bus address (R35). -/
def Ppu.busAddr (q : Ppu) : Word := q.v.setWidth 16 &&& 0x3FFF

/-! ## The ports -/

/-- Control write (R302). -/
def Ppu.controlWrite (d : Byte) (q : Ppu) : Ppu :=
  { q with ctrl := d, t := (q.t &&& 0x73FF) ||| (((d &&& 0x03).setWidth 15) <<< 10) }

/-- The value a status read returns; the low five bits are a draw (R304). -/
def Ppu.statusByte (openBus : Byte) (q : Ppu) : Byte :=
  (BitVec.ofNat 8 (bit q.vblank) <<< 7) ||| (BitVec.ofNat 8 (bit q.sprite0Hit) <<< 6) |||
    (BitVec.ofNat 8 (bit q.spriteOverflow) <<< 5) ||| (openBus &&& 0x1F)

/-- Scroll write (R305). -/
def Ppu.scrollWrite (d : Byte) (q : Ppu) : Ppu :=
  if q.w = false then
    { q with t := (q.t &&& 0x7FE0) ||| ((d >>> 3).setWidth 15), x := (d &&& 0x07).setWidth 3, w := true }
  else
    { q with t := (q.t &&& 0x0C1F) ||| (((d &&& 0x07).setWidth 15) <<< 12) ||| (((d &&& 0xF8).setWidth 15) <<< 2), w := false }

/-- Address write (R306). -/
def Ppu.addressWrite (d : Byte) (q : Ppu) : Ppu :=
  if q.w = false then { q with t := (q.t &&& 0x00FF) ||| (((d &&& 0x3F).setWidth 15) <<< 8), w := true }
  else
    let t := (q.t &&& 0x7F00) ||| d.setWidth 15
    { q with t := t, v := t, w := false }

/-- OAM data write (R309). -/
def Ppu.oamDataWrite (d : Byte) (q : Ppu) : Ppu :=
  { q with oam := q.oam.write q.oamAddr.toNat d, oamAddr := q.oamAddr + 1 }

/-- The data port's increment of v, by 1 or 32 (R307). -/
def Ppu.stepV (q : Ppu) : Ppu := { q with v := q.v + (if q.ctrl.getLsbD 2 then 32 else 1) }

/-- Data read (R307): below the palette the buffered byte, in the palette the byte itself. -/
def dataRead (s : State) : Byte × State :=
  let a := s.ppu.busAddr
  if a.toNat < 0x3F00 then
    (s.ppu.readBuffer, s.setPpu { s.ppu with readBuffer := ppuRead a s }.stepV)
  else
    (ppuRead a s, s.setPpu { s.ppu with readBuffer := ppuRead (a - 0x1000) s }.stepV)

/-- Data write (R307). -/
def dataWrite (d : Byte) (s : State) : State :=
  let s1 := ppuWrite s.ppu.busAddr d s
  s1.setPpu s1.ppu.stepV

/-- Status read (R304): it clears vblank and the write toggle. -/
def statusRead (s : State) : Byte × State :=
  (s.ppu.statusByte (Config.ppuOpenBus s.draws), (s.setPpu { s.ppu with vblank := false, w := false }).nextDraw)

/-- `PpuPortRead(0x2000 + p)` (R301, R303). A read of a write-only port is a draw. -/
def ppuPortRead (p : Nat) (s : State) : Byte × State :=
  match p with
  | 2 => statusRead s
  | 4 => (s.ppu.oam.read s.ppu.oamAddr.toNat, s)
  | 7 => dataRead s
  | _ => (Config.ppuOpenBus s.draws, s.nextDraw)

/-- `PpuPortWrite(0x2000 + p, d)` (R301, R303, R308, R309). -/
def ppuPortWrite (p : Nat) (d : Byte) (s : State) : State :=
  match p with
  | 0 => s.setPpu (s.ppu.controlWrite d)
  | 1 => s.setPpu { s.ppu with mask := d }
  | 2 => s
  | 3 => s.setPpu { s.ppu with oamAddr := d }
  | 4 => s.setPpu (s.ppu.oamDataWrite d)
  | 5 => s.setPpu (s.ppu.scrollWrite d)
  | 6 => s.setPpu (s.ppu.addressWrite d)
  | _ => dataWrite d s

/-! ## The controller port -/

/-- `ControllerRead()` (R330): the button byte is a draw. -/
def controllerRead (s : State) : Byte × State :=
  let r := (Config.buttons s.draws >>> s.index.toNat) &&& 1
  (r, { s with index := if s.strobe = 1 then 0 else s.index + 1 }.nextDraw)

/-- `ControllerWrite(d)` (R330). -/
def controllerWrite (d : Byte) (s : State) : State :=
  let strobe : BitVec 1 := (d &&& 1).setWidth 1
  { s with strobe := strobe, index := if strobe = 1 then 0 else s.index }

end Sys2Proof.Machine
end

