-- ==== Sys2Proof/Machine/Ops.lean ====
section
/-! DEFINITION. The shared operations of the CPU: the bus router with illegal accesses and OAM-DMA, words and the stack, taking
an interrupt and returning from one, the halt, and the frame of an instruction (spec/20_memory.md R60 to R78,
spec/40_cpu_engine.md R140 to R159, spec/60_exceptions.md R400 to R408). -/

namespace Sys2Proof.Machine

/-! ## Going on, or ending the step -/

/-- Goes on with `k` unless the step has ended. -/
def Bus.bind {α β : Type} (r : Bus α) (k : α → State → Bus β) : Bus β :=
  match r with
  | .ok v s => k v s
  | .stop s => .stop s

/-- The state reached, whether the step goes on or has ended. -/
def Bus.state {α : Type} : Bus α → State
  | .ok _ s => s
  | .stop s => s

/-! ## The bus router -/

/-- A read of this CPU address is routed somewhere (R60, R66): the illegal ones are 0x4000 to 0x4015 and 0x4017 to 0x5FFF. -/
def readable (a : Word) : Bool := decide (a.toNat ≤ 0x3FFF) || a == 0x4016 || decide (0x6000 ≤ a.toNat)

/-- A write to this CPU address is routed somewhere (R60, R66). -/
def writable (a : Word) : Bool := readable a || a == 0x4014

/-- Appends to the sticky fault log (R45). -/
def State.record (f : FaultRecord) (s : State) : State := { s with faults := s.faults ++ [f] }

/-- `raise BusFault(a, Read)` (R66, R400): recorded; then a draw, or the end of the step. -/
def illegalRead (a : Word) (s : State) : Bus Byte :=
  match s.params.busFaultPolicy with
  | .recordAndContinue => .ok (Config.busFaultRead s.draws) (s.record (.busFault a .read)).nextDraw
  | .halt => .stop (s.record (.busFault a .read))

/-- `raise BusFault(a, Write)` (R66, R400): recorded; then no effect, or the end of the step. -/
def illegalWrite (a : Word) (s : State) : Bus Unit :=
  match s.params.busFaultPolicy with
  | .recordAndContinue => .ok () (s.record (.busFault a .write))
  | .halt => .stop (s.record (.busFault a .write))

/-- A result that always goes on. -/
def Bus.ofPair {α : Type} (r : α × State) : Bus α := .ok r.1 r.2

/-- `CpuRead(a)` (R60 to R66). -/
def cpuRead (a : Word) (s : State) : Bus Byte :=
  if a.toNat ≤ 0x1FFF then .ok (s.ram.read (a.toNat % 0x800)) s
  else if a.toNat ≤ 0x3FFF then .ofPair (ppuPortRead (a.toNat % 8) s)
  else if a = 0x4016 then .ofPair (controllerRead s)
  else if 0x6000 ≤ a.toNat then .ok (s.cart.cpuRead a) s
  else illegalRead a s

/-- OAM byte `oamAddr + i` receives a byte (R320). -/
def State.oamPut (i : Nat) (b : Byte) (s : State) : State :=
  s.setPpu { s.ppu with oam := s.ppu.oam.write (s.ppu.oamAddr + BitVec.ofNat 8 i).toNat b }

/-- The reads `i`, `i + 1`, … of the OAM-DMA transfer from page `d`, `n` of them (R320). -/
def oamDmaFrom (d : Byte) : Nat → Nat → State → Bus Unit
  | 0, _, s => .ok () s
  | n + 1, i, s => (cpuRead (mkWord (BitVec.ofNat 8 i) d) s).bind fun b s1 => oamDmaFrom d n (i + 1) (s1.oamPut i b)

/-- `OamDma(d)` (R63, R320). -/
def oamDma (d : Byte) (s : State) : Bus Unit := oamDmaFrom d 256 0 s

/-- `CpuWrite(a, d)` (R60 to R66). -/
def cpuWrite (a : Word) (d : Byte) (s : State) : Bus Unit :=
  if a.toNat ≤ 0x1FFF then .ok () { s with ram := s.ram.write (a.toNat % 0x800) d }
  else if a.toNat ≤ 0x3FFF then .ok () (ppuPortWrite (a.toNat % 8) d s)
  else if a = 0x4014 then oamDma d s
  else if a = 0x4016 then .ok () (controllerWrite d s)
  else if 0x6000 ≤ a.toNat then .ok () { s with cart := s.cart.cpuWrite a d }
  else illegalWrite a s

/-- The byte a CPU address holds, without an access: RAM, save RAM or ROM. A device or illegal address holds none. -/
def byteAt (a : Word) (s : State) : Option Byte :=
  if a.toNat ≤ 0x1FFF then some (s.ram.read (a.toNat % 0x800))
  else if 0x6000 ≤ a.toNat then some (s.cart.cpuRead a)
  else none

/-! ## Words and the stack -/

/-- `ReadWord(a)` (R70). -/
def readWord (a : Word) (s : State) : Bus Word :=
  (cpuRead a s).bind fun lo s1 => (cpuRead (a + 1) s1).bind fun hi s2 => .ok (mkWord lo hi) s2

/-- The address of the high byte in `ReadWordBug` (R71): the low byte of the address wraps within its page. -/
def samePageNext (a : Word) : Word := mkWord (loByte a + 1) (hiByte a)

/-- `ReadWordBug(a)` (R71). -/
def readWordBug (a : Word) (s : State) : Bus Word :=
  (cpuRead a s).bind fun lo s1 => (cpuRead (samePageNext a) s1).bind fun hi s2 => .ok (mkWord lo hi) s2

/-- `0x0100 | SP` (R22). -/
def stackAddr (sp : Byte) : Word := mkWord sp 0x01

/-- `Push(v)` (R73). -/
def push (v : Byte) (s : State) : Bus Unit :=
  (cpuWrite (stackAddr s.sp) v s).bind fun _ s1 => .ok () { s1 with sp := s1.sp - 1 }

/-- `Pop()` (R74). -/
def pop (s : State) : Bus Byte := cpuRead (stackAddr (s.sp + 1)) { s with sp := s.sp + 1 }

/-- `Push16(v)`, high byte first (R75). -/
def push16 (v : Word) (s : State) : Bus Unit := (push (hiByte v) s).bind fun _ s1 => push (loByte v) s1

/-- `Pop16()`, low byte first (R76). -/
def pop16 (s : State) : Bus Word := (pop s).bind fun lo s1 => (pop s1).bind fun hi s2 => .ok (mkWord lo hi) s2

/-! ## Interrupts -/

/-- Entry to a handler, for interrupt service and for BRK (R402, R253): the return address and a status byte are pushed, I
becomes 1, and the pc is the word at the vector. -/
def enterHandler (returnTo : Word) (status : Byte) (vector : Word) (s : State) : Bus Unit :=
  (push16 returnTo s).bind fun _ s1 => (push status s1).bind fun _ s2 =>
    (readWord vector (s2.setFlag .i true)).bind fun target s3 => .ok () { s3 with pc := target }

/-- The vector of an interrupt (R402). -/
def Interrupt.vector : Interrupt → Word
  | .nmi => 0xFFFA
  | .irq => 0xFFFE

/-- The vector of BRK (R253). -/
def brkVector : Word := 0xFFFE

/-- The reset vector (R441). -/
def resetVector : Word := 0xFFFC

/-- `ServiceInterrupt(k)` (R402). -/
def serviceInterrupt (k : Interrupt) (s : State) : Bus Unit :=
  (enterHandler s.pc (statusPushedByInterrupt s.p) k.vector s).bind fun _ s1 => .ok () { s1 with pending := none }

/-- The return from an interrupt or BRK (R252, R408): P, then the pc, without adding 1. -/
def returnFromInterrupt (s : State) : Bus Unit :=
  (pop s).bind fun b s1 => (pop16 { s1 with p := statusFromByte b }).bind fun target s2 => .ok () { s2 with pc := target }

/-- The interrupt test at the top of a CPU tick (R403). -/
def interruptToService (s : State) : Option Interrupt :=
  match s.pending with
  | some .nmi => some .nmi
  | some .irq => if s.flag .i then none else some .irq
  | none => none

/-- `RaiseNMI()`: it writes NMI whatever the cell holds (R311, R403). -/
def State.raiseNmi (s : State) : State := { s with pending := some .nmi }

/-- `RaiseIRQ()`: it writes IRQ only when the cell is empty (R404). -/
def State.raiseIrq (s : State) : State :=
  match s.pending with
  | none => { s with pending := some .irq }
  | some _ => s

/-! ## The halt -/

/-- `raise Halt(op)` (R291, R401): PC and everything else stay. -/
def haltOn (op : Byte) (s : State) : State := { s with running := false, haltCause := some op }.record (.halt op)

/-- The opcode halts: class halt, or class unofficial and not in UNOFFICIAL_SET (R124, R140, R401). -/
def haltsOn (op : Byte) (p : Params) : Bool :=
  match (rowOf op).cls with
  | .official => false
  | .unofficial => !p.unofficialSet.contains op
  | .halting => true

/-- `haltFault` (R420): the policy is halt and the log holds a bus fault. -/
def State.haltFault (s : State) : Bool :=
  s.params.busFaultPolicy == .halt && s.faults.any fun f => match f with | .busFault _ _ => true | .halt _ => false

/-! ## The frame of an instruction -/

/-- What `exec` answers. -/
abbrev Result := Host.Outcome State Fault Refusal

/-- `nextPC = u16(PC + size)` of an instruction at the pc (R140, R153). -/
def nextPc (i : Instr) (s : State) : Word := s.pc + BitVec.ofNat 16 i.size

/-- `PC <- nextPC`, the start of an instruction that is executed (R140). -/
def State.start (i : Instr) (s : State) : State := { s with pc := nextPc i s }

/-- `PagePenalty(row, crossed)` (R149). -/
def pagePenalty (i : Instr) (crossed : Bool) : Nat := if i.row.penalty = .page ∧ crossed then 1 else 0

/-- The tick returns a cycle count (R152). -/
def State.setCycles (n : Nat) (s : State) : State := { s with cycles := n }

/-- The end of an instruction (R152, R159): `extra` is the penalty, or the branch's extra cycles. A step that ended at an access
returns no cycles. -/
def complete (i : Instr) (r : Bus Nat) : Result :=
  match r with
  | .ok extra s => .next (s.setCycles (i.row.cycles + extra))
  | .stop s => .next (s.setCycles 0)

/-- An instruction with no access of its own: its effect after `PC <- nextPC`. -/
def register (i : Instr) (f : State → State) (s : State) : Result := complete i (.ok 0 (f (s.start i)))

/-- An instruction whose accesses are the stack's or a vector's. -/
def stacked (i : Instr) (f : State → Bus Unit) (s : State) : Result :=
  complete i ((f (s.start i)).bind fun _ s1 => .ok 0 s1)

/-- The tick of an opcode that halts (R291): 0 cycles. -/
def haltTick (op : Byte) (s : State) : Result := .next ((haltOn op s).setCycles 0)

/-- The gate of R280: an unofficial opcode outside UNOFFICIAL_SET halts. -/
def gated (i : Instr) (k : State → Result) (s : State) : Result :=
  if s.params.unofficialSet.contains i.opcode then k s else haltTick i.opcode s

end Sys2Proof.Machine
end

