-- ==== Sys2Proof/Machine/Operands.lean ====
section
/-! DEFINITION. GetAddress for every format, the operand helpers, and the shapes of the instructions with a memory operand:
read, write, and read-modify-write (spec/40_cpu_engine.md R141 to R151). The operand bytes are in the instruction; the tick has
read them in order before (Machine/Fetch.lean). -/

namespace Sys2Proof.Machine

/-- What GetAddress returns (R140). -/
structure EffAddr where
  addr : Word
  crossed : Bool
  deriving DecidableEq, Repr

/-- `(base & 0xFF00) ≠ (ea & 0xFF00)` (R144). -/
def pageCrossed (base ea : Word) : Bool := hiByte base != hiByte ea

/-- An indexed 16-bit address with its page-cross test (R144, R146). -/
def indexed (base : Word) (index : Byte) : EffAddr :=
  { addr := base + zext index, crossed := pageCrossed base (base + zext index) }

/-- GetAddress for the formats with an effective address (R142 to R146). -/
def effAddr (m : AddrMode) (s : State) : Bus EffAddr :=
  match m with
  | .zp b => .ok ⟨zext b, false⟩ s
  | .zpX b => .ok ⟨zext (b + s.x), false⟩ s
  | .zpY b => .ok ⟨zext (b + s.y), false⟩ s
  | .abs w => .ok ⟨w, false⟩ s
  | .absX w => .ok (indexed w s.x) s
  | .absY w => .ok (indexed w s.y) s
  | .indX b => (readWordBug (zext (b + s.x)) s).bind fun ea s1 => .ok ⟨ea, false⟩ s1
  | .indY b => (readWordBug (zext b) s).bind fun base s1 => .ok (indexed base s1.y) s1

/-- What GetAddress returns, alone: the address a claim speaks of. GetAddress always goes on (Laws/Operands.lean). -/
def addressed (m : AddrMode) (s : State) : EffAddr :=
  match effAddr m s with
  | .ok ea _ => ea
  | .stop _ => ⟨0, false⟩

/-- GetAddress for JMP (R143, R148): the target. -/
def jumpTarget (t : JumpOperand) (s : State) : Bus Word :=
  match t with
  | .abs w => .ok w s
  | .ind w => readWordBug w s

/-- `EA = u16(nextPC + s8(b1))` (R147); `next` is nextPC. -/
def branchTarget (next : Word) (d : Byte) : Word := next + sext d

/-- A loaded operand, and whether its address crossed a page. -/
structure Loaded where
  value : Byte
  crossed : Bool
  deriving DecidableEq, Repr

/-- `Load()` from memory (R150 step 4, R151). -/
def loadMem (m : AddrMode) (s : State) : Bus Loaded :=
  (effAddr m s).bind fun ea s1 => (cpuRead ea.addr s1).bind fun v s2 => .ok ⟨v, ea.crossed⟩ s2

/-- `Load()` for a read-class instruction (R151). The immediate byte has been read by the tick (R141; log entry 14). -/
def load (m : ReadOperand) (s : State) : Bus Loaded :=
  match m with
  | .imm b => .ok ⟨b, false⟩ s
  | .mem m => loadMem m s

/-- A read-class instruction (R150): `f` is its effect once the operand is there. -/
def readOp (i : Instr) (m : ReadOperand) (f : Byte → State → State) (s : State) : Result :=
  complete i ((load m (s.start i)).bind fun r s1 => .ok (pagePenalty i r.crossed) (f r.value s1))

/-- A write-class instruction (R150): it never reads its target. -/
def writeOp (i : Instr) (m : AddrMode) (f : State → Byte) (s : State) : Result :=
  complete i ((effAddr m (s.start i)).bind fun ea s1 => (cpuWrite ea.addr (f s1) s1).bind fun _ s2 => .ok 0 s2)

/-- A read-modify-write instruction (R150): one read, then one write of the byte `f` computes; `f` may write flags on the way,
and `g` is what follows the write. -/
def modifyOp (i : Instr) (m : AddrMode) (f : Byte → State → Byte × State) (g : Byte → State → State) (s : State) : Result :=
  complete i ((effAddr m (s.start i)).bind fun ea s1 => (cpuRead ea.addr s1).bind fun v s2 =>
    (cpuWrite ea.addr (f v s2).1 (f v s2).2).bind fun _ s3 => .ok 0 (g (f v s2).1 s3))

/-- A shift or rotate (R230 to R233): on A without an access, or read-modify-write. -/
def shiftOp (i : Instr) (k : ShiftKind) (m : ShiftOperand) (s : State) : Result :=
  match m with
  | .acc => register i (fun s1 => (s1.shiftCore k s1.a).2.loadA (s1.shiftCore k s1.a).1) s
  | .mem m => modifyOp i m (fun v s1 => s1.shiftCore k v) State.setZN s

/-- A conditional branch (R240). -/
def branchOp (i : Instr) (d : Byte) (cond : Bool) (s : State) : Result :=
  let next := nextPc i s
  let target := branchTarget next d
  if cond then complete i (.ok (1 + bit (pageCrossed next target)) { s with pc := target })
  else complete i (.ok 0 { s with pc := next })

end Sys2Proof.Machine
end

