-- ==== Sys2Proof/Machine/Arith.lean ====
section
/-! DEFINITION. Arithmetic, logic, compare, bit test, increment and decrement (spec/42_arith_logic.md R200 to R214). -/

namespace Sys2Proof.Machine

/-- ADC (R200). -/
def execAdc (m : ReadOperand) (s : State) : Result :=
  readOp (.adc m) m State.addCore s

/-- SBC (R201). -/
def execSbc (m : ReadOperand) (s : State) : Result :=
  readOp (.sbc m) m State.subCore s

/-- AND (R202). -/
def execAnd (m : ReadOperand) (s : State) : Result :=
  readOp (.and m) m (fun v s1 => s1.loadA (s1.a &&& v)) s

/-- ORA (R203). -/
def execOra (m : ReadOperand) (s : State) : Result :=
  readOp (.ora m) m (fun v s1 => s1.loadA (s1.a ||| v)) s

/-- EOR (R204). -/
def execEor (m : ReadOperand) (s : State) : Result :=
  readOp (.eor m) m (fun v s1 => s1.loadA (s1.a ^^^ v)) s

/-- CMP (R205). -/
def execCmp (m : ReadOperand) (s : State) : Result :=
  readOp (.cmp m) m (fun v s1 => s1.compareCore s1.a v) s

/-- CPX (R206). -/
def execCpx (m : ReadOperand) (s : State) : Result :=
  readOp (.cpx m) m (fun v s1 => s1.compareCore s1.x v) s

/-- CPY (R207). -/
def execCpy (m : ReadOperand) (s : State) : Result :=
  readOp (.cpy m) m (fun v s1 => s1.compareCore s1.y v) s

/-- BIT (R208). -/
def execBit (m : AddrMode) (s : State) : Result :=
  readOp (.bit m) (.mem m) State.bitTest s

/-- INC (R209). -/
def execInc (m : AddrMode) (s : State) : Result :=
  modifyOp (.inc m) m (fun v s1 => (v + 1, s1)) State.setZN s

/-- DEC (R210). -/
def execDec (m : AddrMode) (s : State) : Result :=
  modifyOp (.dec m) m (fun v s1 => (v - 1, s1)) State.setZN s

/-- INX (R211). -/
def execInx (s : State) : Result :=
  register .inx (fun s1 => s1.loadX (s1.x + 1)) s

/-- INY (R212). -/
def execIny (s : State) : Result :=
  register .iny (fun s1 => s1.loadY (s1.y + 1)) s

/-- DEX (R213). -/
def execDex (s : State) : Result :=
  register .dex (fun s1 => s1.loadX (s1.x - 1)) s

/-- DEY (R214). -/
def execDey (s : State) : Result :=
  register .dey (fun s1 => s1.loadY (s1.y - 1)) s

end Sys2Proof.Machine
end

