-- ==== Sys2Proof/Machine/Control.lean ====
section
/-! DEFINITION. Branches, jumps, subroutines and the software interrupt (spec/44_control_transfer.md R240 to R253). -/

namespace Sys2Proof.Machine

/-- BPL (R241): branch if N = 0. -/
def execBpl (d : Byte) (s : State) : Result :=
  branchOp (.bpl d) d (!(s.flag .n)) s

/-- BMI (R242): branch if N = 1. -/
def execBmi (d : Byte) (s : State) : Result :=
  branchOp (.bmi d) d (s.flag .n) s

/-- BVC (R243): branch if V = 0. -/
def execBvc (d : Byte) (s : State) : Result :=
  branchOp (.bvc d) d (!(s.flag .v)) s

/-- BVS (R244): branch if V = 1. -/
def execBvs (d : Byte) (s : State) : Result :=
  branchOp (.bvs d) d (s.flag .v) s

/-- BCC (R245): branch if C = 0. -/
def execBcc (d : Byte) (s : State) : Result :=
  branchOp (.bcc d) d (!(s.flag .c)) s

/-- BCS (R246): branch if C = 1. -/
def execBcs (d : Byte) (s : State) : Result :=
  branchOp (.bcs d) d (s.flag .c) s

/-- BNE (R247): branch if Z = 0. -/
def execBne (d : Byte) (s : State) : Result :=
  branchOp (.bne d) d (!(s.flag .z)) s

/-- BEQ (R248): branch if Z = 1. -/
def execBeq (d : Byte) (s : State) : Result :=
  branchOp (.beq d) d (s.flag .z) s

/-- JMP (R249). -/
def execJmp (t : JumpOperand) (s : State) : Result :=
  stacked (.jmp t) (fun s1 => (jumpTarget t s1).bind fun target s2 => .ok () { s2 with pc := target }) s

/-- JSR (R250): the address of its own last byte is pushed. -/
def execJsr (w : Word) (s : State) : Result :=
  stacked (.jsr w) (fun s1 => (push16 (s1.pc - 1) s1).bind fun _ s2 => .ok () { s2 with pc := w }) s

/-- RTS (R251). -/
def execRts (s : State) : Result :=
  stacked .rts (fun s1 => (pop16 s1).bind fun v s2 => .ok () { s2 with pc := v + 1 }) s

/-- RTI (R252). -/
def execRti (s : State) : Result :=
  stacked .rti returnFromInterrupt s

/-- BRK (R253): the pushed address skips the padding byte; I is not tested and the pending cell is not touched. -/
def execBrk (s : State) : Result :=
  stacked .brk (fun s1 => enterHandler s1.pc (statusPushedBySoftware s1.p) brkVector s1) s

end Sys2Proof.Machine
end

