-- ==== Sys2Proof/Machine/Halting.lean ====
section
/-! DEFINITION. The opcodes that always halt (spec/46_unofficial.md R291): the tick sets running and haltCause, records the halt and leaves
everything else as it is. -/

namespace Sys2Proof.Machine

/-- KIL (R291). -/
def execKil (op : Byte) (s : State) : Result :=
  haltTick (Instr.kil op).opcode s

/-- ANC (R291). -/
def execAnc (op : Byte) (s : State) : Result :=
  haltTick (Instr.anc op).opcode s

/-- ALR (R291). -/
def execAlr (s : State) : Result :=
  haltTick Instr.alr.opcode s

/-- ARR (R291). -/
def execArr (s : State) : Result :=
  haltTick Instr.arr.opcode s

/-- XAA (R291). -/
def execXaa (s : State) : Result :=
  haltTick Instr.xaa.opcode s

/-- AHX (R291). -/
def execAhx (op : Byte) (s : State) : Result :=
  haltTick (Instr.ahx op).opcode s

/-- TAS (R291). -/
def execTas (s : State) : Result :=
  haltTick Instr.tas.opcode s

/-- SHY (R291). -/
def execShy (s : State) : Result :=
  haltTick Instr.shy.opcode s

/-- SHX (R291). -/
def execShx (s : State) : Result :=
  haltTick Instr.shx.opcode s

/-- LXA (R291). -/
def execLxa (s : State) : Result :=
  haltTick Instr.lxa.opcode s

/-- LAS (R291). -/
def execLas (s : State) : Result :=
  haltTick Instr.las.opcode s

/-- AXS (R291). -/
def execAxs (s : State) : Result :=
  haltTick Instr.axs.opcode s

end Sys2Proof.Machine
end

