-- ==== Sys2Proof/Machine/LoadStore.lean ====
section
/-! DEFINITION. Loads, stores and register transfers (spec/41_load_store.md R180 to R191). -/

namespace Sys2Proof.Machine

/-- LDA (R180). -/
def execLda (m : ReadOperand) (s : State) : Result :=
  readOp (.lda m) m (fun v s1 => s1.loadA v) s

/-- LDX (R181). -/
def execLdx (m : ReadOperand) (s : State) : Result :=
  readOp (.ldx m) m (fun v s1 => s1.loadX v) s

/-- LDY (R182). -/
def execLdy (m : ReadOperand) (s : State) : Result :=
  readOp (.ldy m) m (fun v s1 => s1.loadY v) s

/-- STA (R183). -/
def execSta (m : AddrMode) (s : State) : Result :=
  writeOp (.sta m) m (fun s1 => s1.a) s

/-- STX (R184). -/
def execStx (m : AddrMode) (s : State) : Result :=
  writeOp (.stx m) m (fun s1 => s1.x) s

/-- STY (R185). -/
def execSty (m : AddrMode) (s : State) : Result :=
  writeOp (.sty m) m (fun s1 => s1.y) s

/-- TAX (R186). -/
def execTax (s : State) : Result :=
  register .tax (fun s1 => s1.loadX s1.a) s

/-- TAY (R187). -/
def execTay (s : State) : Result :=
  register .tay (fun s1 => s1.loadY s1.a) s

/-- TXA (R188). -/
def execTxa (s : State) : Result :=
  register .txa (fun s1 => s1.loadA s1.x) s

/-- TYA (R189). -/
def execTya (s : State) : Result :=
  register .tya (fun s1 => s1.loadA s1.y) s

/-- TSX (R190). -/
def execTsx (s : State) : Result :=
  register .tsx (fun s1 => s1.loadX s1.sp) s

/-- TXS (R191): the one transfer that writes no flag. -/
def execTxs (s : State) : Result :=
  register .txs (fun s1 => { s1 with sp := s1.x }) s

end Sys2Proof.Machine
end

