-- ==== Sys2Proof/Machine/Shift.lean ====
section
/-! DEFINITION. Shifts and rotates (spec/43_shift_rotate.md R230 to R233). -/

namespace Sys2Proof.Machine

/-- ASL (R230). -/
def execAsl (m : ShiftOperand) (s : State) : Result :=
  shiftOp (.asl m) .asl m s

/-- LSR (R231). -/
def execLsr (m : ShiftOperand) (s : State) : Result :=
  shiftOp (.lsr m) .lsr m s

/-- ROL (R232). -/
def execRol (m : ShiftOperand) (s : State) : Result :=
  shiftOp (.rol m) .rol m s

/-- ROR (R233). -/
def execRor (m : ShiftOperand) (s : State) : Result :=
  shiftOp (.ror m) .ror m s

end Sys2Proof.Machine
end

