-- ==== Sys2Proof/Machine/Stack.lean ====
section
/-! DEFINITION. Stack, flag and no-operation instructions (spec/45_stack_status_misc.md R260 to R271). -/

namespace Sys2Proof.Machine

/-- PHA (R260). -/
def execPha (s : State) : Result :=
  stacked .pha (fun s1 => push s1.a s1) s

/-- PHP (R261): bits 4 and 5 are set in the pushed copy only. -/
def execPhp (s : State) : Result :=
  stacked .php (fun s1 => push (statusPushedBySoftware s1.p) s1) s

/-- PLA (R262). -/
def execPla (s : State) : Result :=
  stacked .pla (fun s1 => (pop s1).bind fun v s2 => .ok () (s2.loadA v)) s

/-- PLP (R263). -/
def execPlp (s : State) : Result :=
  stacked .plp (fun s1 => (pop s1).bind fun v s2 => .ok () { s2 with p := statusFromByte v }) s

/-- CLC (R264). -/
def execClc (s : State) : Result :=
  register .clc (State.setFlag .c false) s

/-- SEC (R265). -/
def execSec (s : State) : Result :=
  register .sec (State.setFlag .c true) s

/-- CLI (R266). -/
def execCli (s : State) : Result :=
  register .cli (State.setFlag .i false) s

/-- SEI (R267). -/
def execSei (s : State) : Result :=
  register .sei (State.setFlag .i true) s

/-- CLD (R268). -/
def execCld (s : State) : Result :=
  register .cld (State.setFlag .d false) s

/-- SED (R269). -/
def execSed (s : State) : Result :=
  register .sed (State.setFlag .d true) s

/-- CLV (R270). -/
def execClv (s : State) : Result :=
  register .clv (State.setFlag .v false) s

/-- NOP (R271). -/
def execNop (s : State) : Result :=
  register .nop id s

end Sys2Proof.Machine
end

