-- ==== Sys2Proof/Machine/Unofficial.lean ====
section
/-! DEFINITION. The unofficial opcodes that are executed when UNOFFICIAL_SET holds them (spec/46_unofficial.md R280 to R290). -/

namespace Sys2Proof.Machine

/-- The effect of an unofficial NOP (R281): a memory operand is read, with the read's side effects, and discarded. -/
def nopEffect (i : Instr) (m : NopOperand) (s : State) : Result :=
  match m with
  | .implied => register i id s
  | .imm b => readOp i (.imm b) (fun _ s1 => s1) s
  | .mem m => readOp i (.mem m) (fun _ s1 => s1) s

/-- The unofficial NOPs (R281). -/
def execNopUnofficial (op : Byte) (m : NopOperand) (s : State) : Result :=
  gated (.nopUnofficial op m) (nopEffect (.nopUnofficial op m) m) s

/-- LAX (R282). -/
def execLax (m : AddrMode) (s : State) : Result :=
  gated (.lax m) (readOp (.lax m) (.mem m) (fun v s1 => { s1 with x := v }.loadA v)) s

/-- SAX (R283). -/
def execSax (m : AddrMode) (s : State) : Result :=
  gated (.sax m) (writeOp (.sax m) m (fun s1 => s1.a &&& s1.x)) s

/-- SBC 0xEB (R284). -/
def execSbcEB (b : Byte) (s : State) : Result :=
  gated (.sbcEB b) (readOp (.sbcEB b) (.imm b) State.subCore) s

/-- DCP (R285). -/
def execDcp (m : AddrMode) (s : State) : Result :=
  gated (.dcp m) (modifyOp (.dcp m) m (fun v s1 => (v - 1, s1)) (fun r s1 => s1.compareCore s1.a r)) s

/-- ISB (R286). -/
def execIsb (m : AddrMode) (s : State) : Result :=
  gated (.isb m) (modifyOp (.isb m) m (fun v s1 => (v + 1, s1)) State.subCore) s

/-- SLO (R287). -/
def execSlo (m : AddrMode) (s : State) : Result :=
  gated (.slo m) (modifyOp (.slo m) m (fun v s1 => s1.shiftCore .asl v) (fun r s1 => s1.loadA (s1.a ||| r))) s

/-- RLA (R288). -/
def execRla (m : AddrMode) (s : State) : Result :=
  gated (.rla m) (modifyOp (.rla m) m (fun v s1 => s1.shiftCore .rol v) (fun r s1 => s1.loadA (s1.a &&& r))) s

/-- SRE (R289). -/
def execSre (m : AddrMode) (s : State) : Result :=
  gated (.sre m) (modifyOp (.sre m) m (fun v s1 => s1.shiftCore .lsr v) (fun r s1 => s1.loadA (s1.a ^^^ r))) s

/-- RRA (R290): the carry into the addition is the bit the rotate shifted out. -/
def execRra (m : AddrMode) (s : State) : Result :=
  gated (.rra m) (modifyOp (.rra m) m (fun v s1 => s1.shiftCore .ror v) State.addCore) s

end Sys2Proof.Machine
end

