-- ==== Sys2Proof/Machine/Dispatch.lean ====
section
/-! DEFINITION. The meaning of every instruction, one arm a constructor. -/

namespace Sys2Proof.Machine

def exec (i : Instr) (s : State) : Host.Outcome State Fault Refusal :=
  match i with
  | .lda m => Sys2Proof.Machine.execLda m s
  | .ldx m => Sys2Proof.Machine.execLdx m s
  | .ldy m => Sys2Proof.Machine.execLdy m s
  | .sta m => Sys2Proof.Machine.execSta m s
  | .stx m => Sys2Proof.Machine.execStx m s
  | .sty m => Sys2Proof.Machine.execSty m s
  | .tax => Sys2Proof.Machine.execTax s
  | .tay => Sys2Proof.Machine.execTay s
  | .txa => Sys2Proof.Machine.execTxa s
  | .tya => Sys2Proof.Machine.execTya s
  | .tsx => Sys2Proof.Machine.execTsx s
  | .txs => Sys2Proof.Machine.execTxs s
  | .adc m => Sys2Proof.Machine.execAdc m s
  | .sbc m => Sys2Proof.Machine.execSbc m s
  | .and m => Sys2Proof.Machine.execAnd m s
  | .ora m => Sys2Proof.Machine.execOra m s
  | .eor m => Sys2Proof.Machine.execEor m s
  | .cmp m => Sys2Proof.Machine.execCmp m s
  | .cpx m => Sys2Proof.Machine.execCpx m s
  | .cpy m => Sys2Proof.Machine.execCpy m s
  | .bit m => Sys2Proof.Machine.execBit m s
  | .inc m => Sys2Proof.Machine.execInc m s
  | .dec m => Sys2Proof.Machine.execDec m s
  | .inx => Sys2Proof.Machine.execInx s
  | .iny => Sys2Proof.Machine.execIny s
  | .dex => Sys2Proof.Machine.execDex s
  | .dey => Sys2Proof.Machine.execDey s
  | .asl m => Sys2Proof.Machine.execAsl m s
  | .lsr m => Sys2Proof.Machine.execLsr m s
  | .rol m => Sys2Proof.Machine.execRol m s
  | .ror m => Sys2Proof.Machine.execRor m s
  | .bpl d => Sys2Proof.Machine.execBpl d s
  | .bmi d => Sys2Proof.Machine.execBmi d s
  | .bvc d => Sys2Proof.Machine.execBvc d s
  | .bvs d => Sys2Proof.Machine.execBvs d s
  | .bcc d => Sys2Proof.Machine.execBcc d s
  | .bcs d => Sys2Proof.Machine.execBcs d s
  | .bne d => Sys2Proof.Machine.execBne d s
  | .beq d => Sys2Proof.Machine.execBeq d s
  | .jmp t => Sys2Proof.Machine.execJmp t s
  | .jsr w => Sys2Proof.Machine.execJsr w s
  | .rts => Sys2Proof.Machine.execRts s
  | .rti => Sys2Proof.Machine.execRti s
  | .brk => Sys2Proof.Machine.execBrk s
  | .pha => Sys2Proof.Machine.execPha s
  | .php => Sys2Proof.Machine.execPhp s
  | .pla => Sys2Proof.Machine.execPla s
  | .plp => Sys2Proof.Machine.execPlp s
  | .clc => Sys2Proof.Machine.execClc s
  | .sec => Sys2Proof.Machine.execSec s
  | .cli => Sys2Proof.Machine.execCli s
  | .sei => Sys2Proof.Machine.execSei s
  | .cld => Sys2Proof.Machine.execCld s
  | .sed => Sys2Proof.Machine.execSed s
  | .clv => Sys2Proof.Machine.execClv s
  | .nop => Sys2Proof.Machine.execNop s
  | .nopUnofficial op m => Sys2Proof.Machine.execNopUnofficial op m s
  | .lax m => Sys2Proof.Machine.execLax m s
  | .sax m => Sys2Proof.Machine.execSax m s
  | .sbcEB b => Sys2Proof.Machine.execSbcEB b s
  | .dcp m => Sys2Proof.Machine.execDcp m s
  | .isb m => Sys2Proof.Machine.execIsb m s
  | .slo m => Sys2Proof.Machine.execSlo m s
  | .rla m => Sys2Proof.Machine.execRla m s
  | .sre m => Sys2Proof.Machine.execSre m s
  | .rra m => Sys2Proof.Machine.execRra m s
  | .kil op => Sys2Proof.Machine.execKil op s
  | .anc op => Sys2Proof.Machine.execAnc op s
  | .alr => Sys2Proof.Machine.execAlr s
  | .arr => Sys2Proof.Machine.execArr s
  | .xaa => Sys2Proof.Machine.execXaa s
  | .ahx op => Sys2Proof.Machine.execAhx op s
  | .tas => Sys2Proof.Machine.execTas s
  | .shy => Sys2Proof.Machine.execShy s
  | .shx => Sys2Proof.Machine.execShx s
  | .lxa => Sys2Proof.Machine.execLxa s
  | .las => Sys2Proof.Machine.execLas s
  | .axs => Sys2Proof.Machine.execAxs s

end Sys2Proof.Machine
end

