-- ==== Sys2Proof/Machine/Fetch.lean ====
section
/-! DEFINITION. The opcode fetch and the operand-byte reads of a CPU tick (spec/40_cpu_engine.md R140, R150). -/

namespace Sys2Proof.Machine

/-- The operand bytes that a tick reads for an opcode: none when the opcode halts (R140, R291). -/
def operandsRead (op : Byte) (p : Params) : Nat := if haltsOn op p then 0 else operandBytes op

/-- The operand-byte reads at PC+1 and PC+2, in order, and the instruction they make (R142, R143, R150). -/
def fetchOperands (op : Byte) (s : State) : Bus Instr :=
  match operandsRead op s.params with
  | 0 => .ok (decodeOp op 0 0) s
  | 1 => (cpuRead (s.pc + 1) s).bind fun b1 s1 => .ok (decodeOp op b1 0) s1
  | _ => (cpuRead (s.pc + 1) s).bind fun b1 s1 => (cpuRead (s.pc + 2) s1).bind fun b2 s2 => .ok (decodeOp op b1 b2) s2

/-- The pc at which the step of an operand-byte read that faults under the halt policy ends: nextPC (R400; log entry 11). -/
def stopAtNext (op : Byte) (pc : Word) (r : Bus Instr) : Bus Instr :=
  match r with
  | .ok i s => .ok i s
  | .stop s => .stop { s with pc := pc + BitVec.ofNat 16 (rowOf op).size }

/-- The fetch of an instruction: the opcode byte at the pc, then its operand bytes. The pc itself stays. -/
def fetch (s : State) : Bus Instr :=
  (cpuRead s.pc s).bind fun op s1 => stopAtNext op s.pc (fetchOperands op s1)

/-- The bytes from an address on can be placed there: RAM, save RAM or ROM. -/
def placeable (a : Word) : Bool := decide (a.toNat ≤ 0x1FFF) || decide (0x6000 ≤ a.toNat)

/-- Places a byte at a CPU address, as loading a program from outside the machine does; in ROM it changes the ROM. -/
def placeByte (a : Word) (b : Byte) (s : State) : State :=
  if a.toNat ≤ 0x1FFF then { s with ram := s.ram.write (a.toNat % 0x800) b }
  else if a.toNat ≤ 0x7FFF then { s with cart := { s.cart with prgRam := s.cart.prgRam.write (a.toNat - 0x6000) b } }
  else { s with cart := { s.cart with prg := s.cart.prg.write (s.cart.prgIndex a) b } }

/-- Places bytes at rising CPU addresses. -/
def placeBytes (a : Word) : List Byte → State → State
  | [], s => s
  | b :: rest, s => placeBytes (a + 1) rest (placeByte a b s)

/-- The state in which the next step fetches: no host move, no quit, no halt, no halt-policy fault and no interrupt stands
before the fetch, and the three bytes from the pc on can be placed (where they cannot, the pc is 0x0000). -/
def State.readyToFetch (s : State) : State :=
  { s with
    host := []
    quit := false
    running := true
    haltCause := if s.running then s.haltCause else none
    faults := if s.haltFault then [] else s.faults
    pending := if (interruptToService s).isSome then none else s.pending
    pc := if placeable s.pc && placeable (s.pc + 1) && placeable (s.pc + 2) then s.pc else 0x0000 }

end Sys2Proof.Machine
end

