-- ==== Sys2Proof/Machine/Loader.lean ====
section
/-! DEFINITION. The host's moves: reset() and loadGame(bytes) (spec/70_reset_and_hazards.md R440 to R443,
spec/20_memory.md R100 to R102, spec/60_exceptions.md R404, R423). -/

namespace Sys2Proof.Machine

/-! ## reset() -/

/-- The CPU part of `reset()` (R441). -/
def cpuReset (s : State) : State :=
  ((readWord resetVector s).bind fun target s1 =>
    .ok () { s1 with
      pc := target, sp := 0xFD, p := 0x24, a := 0, x := 0, y := 0, pending := none, running := true, haltCause := none }).state

/-- The PPU part of `reset()` (R442): OAM, the frames and `front` stay. -/
def Ppu.afterReset (q : Ppu) : Ppu :=
  { q with
    cycle := 0, scanline := 0, ctrl := 0, mask := 0, vblank := false, sprite0Hit := false, spriteOverflow := false,
    oamAddr := 0, v := 0, t := 0, x := 0, w := false, readBuffer := 0, ntByte := 0, atBits := 0, patLo := 0, patHi := 0,
    tileData := 0, spriteLine := [] }

/-- `reset()` (R441 to R443). -/
def hostReset (s : State) : State := (cpuReset s).setPpu (cpuReset s).ppu.afterReset

/-- The effect of a host move other than `run` on the core (R423). -/
def hostMove (m : HostMove) (s : State) : State :=
  match m with
  | .run => s
  | .raiseIRQ => s.raiseIrq
  | .reset => hostReset s
  | .quit => { s with quit := true }

/-! ## loadGame(bytes) -/

/-- Why no console is built (R102, R405). -/
inductive LoadError where
  | shortHeader
  | noPrg
  | chrRamUnsupported
  deriving DecidableEq, Repr

/-- The memories that hold POWER_ON_FILL after loadGame (R440). -/
inductive FillRegion where
  | ram | ntRam | palRam | oam | prgRam
  deriving DecidableEq, Repr

/-- The mapper ID of a header (R100, C2). -/
def mapperId (b6 b7 : Byte) : Byte := (b6 >>> 4) ||| (b7 &&& 0xF0)

/-- The mirroring of header byte 6 bit 0 (R44, R100). -/
def headerMirror (b6 : Byte) : Mirror := if b6.getLsbD 0 then .vertical else .horizontal

/-- The length a full image of this header has (R102). -/
def imageLength (nPrg nChr : Nat) : Nat := 16 + 16384 * nPrg + 8192 * nChr

/-- The image's bytes from `start` on, `n` of them; a missing byte is TRUNCATED_FILL's for its place in the image (R102). -/
def imageBytes (truncatedFill : Nat → Byte) (image : List Byte) (start n : Nat) : List Byte :=
  let have_ := (image.drop start).take n
  have_ ++ (List.range (n - have_.length)).map fun k => truncatedFill (start + have_.length + k)

/-- A memory of `n` bytes of fill. -/
def filled (fill : Nat → Byte) (n : Nat) : Memory := Memory.ofBytes 0 ((List.range n).map fill)

/-- The mapper and the load diagnostics that an image gives (R101, R102, R440): a truncated body loads as mapper 0 whatever the
ID is, and both warnings can apply. -/
def selectMapper (id : Byte) (length full : Nat) : MapperKind × List LoadWarning :=
  let fallback := if id = 0 ∨ id = 1 then [] else [LoadWarning.mapperFallback id]
  let truncated := if length < full then [LoadWarning.truncatedBody length] else []
  (if id = 1 ∧ full ≤ length then .shiftBanked else .fixed, fallback ++ truncated)

/-- The cartridge of an image whose header has been accepted (R100, R440 step 3). -/
def buildCart (kind : MapperKind) (nPrg nChr : Nat) (mirror : Mirror) (prgRam : Memory) (truncatedFill : Nat → Byte)
    (image : List Byte) : Cart :=
  { kind := kind, nPrg := nPrg, nChr := nChr
    prg := Memory.ofBytes 0 (imageBytes truncatedFill image 16 (16384 * nPrg))
    chr := Memory.ofBytes 0 (imageBytes truncatedFill image (16 + 16384 * nPrg) (8192 * nChr))
    prgRam := prgRam, mirror := mirror, shift := 0b10000, control := 0x0C, chr0 := 0, chr1 := 0, prgReg := 0 }

/-- `loadGame(bytes)` (R440). POWER_ON_FILL, TRUNCATED_FILL and the launch parameters are arguments (R6). The console ends with
`reset()`. -/
def loadGame (powerOnFill : FillRegion → Nat → Byte) (truncatedFill : Nat → Byte) (params : Params) (image : List Byte) :
    Except LoadError State :=
  match image with
  | _ :: _ :: _ :: _ :: b4 :: b5 :: b6 :: b7 :: _ :: _ :: _ :: _ :: _ :: _ :: _ :: _ :: _ =>
    if b4 = 0 then .error .noPrg
    else if b5 = 0 then .error .chrRamUnsupported
    else
      let mapper := selectMapper (mapperId b6 b7) image.length (imageLength b4.toNat b5.toNat)
      let cart := buildCart mapper.1 b4.toNat b5.toNat (headerMirror b6) (filled (powerOnFill .prgRam) 0x2000) truncatedFill image
      .ok (hostReset
        { State.reset with
          ram := filled (powerOnFill .ram) 0x800
          ntRam := filled (powerOnFill .ntRam) 0x800
          palRam := filled (powerOnFill .palRam) 32
          ppu := { Ppu.initial with oam := filled (powerOnFill .oam) 256 }
          cart := cart
          loadDiag := mapper.2
          params := params })
  | _ => .error .shortHeader

end Sys2Proof.Machine
end

