-- ==== Sys2Proof/Machine/Render.lean ====
section
/-! DEFINITION. The PPU tick: the schedule, the background fetches, the scroll updates, the sprites, pixel composition, and the
frame counters with vblank and NMI (spec/51_ppu_rendering.md R350 to R375, spec/50_ppu.md R300, R310 to R312). -/

namespace Sys2Proof.Machine

/-- `renderingEnabled = mask[3] | mask[4]` (R32). -/
def Ppu.renderingEnabled (q : Ppu) : Bool := q.mask.getLsbD 3 || q.mask.getLsbD 4

/-! ## Background fetches -/

/-- The nametable address (R353). -/
def Ppu.ntAddr (q : Ppu) : Word := 0x2000 ||| (q.v.setWidth 16 &&& 0x0FFF)

/-- The attribute address (R354). -/
def Ppu.atAddr (q : Ppu) : Word :=
  let v : Word := q.v.setWidth 16
  0x23C0 ||| (v &&& 0x0C00) ||| ((v >>> 4) &&& 0x38) ||| ((v >>> 2) &&& 0x07)

/-- The shift that selects the attribute quadrant (R354). -/
def Ppu.atShift (q : Ppu) : Nat :=
  let v : Word := q.v.setWidth 16
  (((v >>> 4) &&& 0x04) ||| (v &&& 0x02)).toNat

/-- The address of the low pattern plane (R355). -/
def Ppu.patAddr (q : Ppu) : Word :=
  BitVec.ofNat 16 (0x1000 * bit (q.ctrl.getLsbD 4) + 16 * q.ntByte.toNat + (q.v.toNat / 0x1000) % 8)

/-- FetchNT (R353). -/
def fetchNt (s : State) : State := s.setPpu { s.ppu with ntByte := ppuRead s.ppu.ntAddr s }

/-- FetchAT (R354). -/
def fetchAt (s : State) : State :=
  s.setPpu { s.ppu with atBits := ((ppuRead s.ppu.atAddr s >>> s.ppu.atShift) &&& 0x03) <<< 2 }

/-- FetchLo (R355). -/
def fetchLo (s : State) : State := s.setPpu { s.ppu with patLo := ppuRead s.ppu.patAddr s }

/-- FetchHi (R355). -/
def fetchHi (s : State) : State := s.setPpu { s.ppu with patHi := ppuRead (s.ppu.patAddr + 8) s }

/-- The pixel `p` of StoreTile for bit `b` of the planes (R355). -/
def Ppu.tilePixel (q : Ppu) (b : Nat) : Byte :=
  q.atBits ||| (BitVec.ofNat 8 (bit (q.patHi.getLsbD b)) <<< 1) ||| BitVec.ofNat 8 (bit (q.patLo.getLsbD b))

/-- The eight pixels of the fetched tile, left pixel highest (R355). -/
def Ppu.tileRow (q : Ppu) : BitVec 64 :=
  [7, 6, 5, 4, 3, 2, 1, 0].foldl (fun d b => (d <<< 4) ||| (q.tilePixel b).setWidth 64) 0

/-- StoreTile (R355): into the low 32 bits. -/
def Ppu.storeTile (q : Ppu) : Ppu := { q with tileData := q.tileData ||| q.tileRow }

/-- The shift of the tile register at a fetch cycle (R352). -/
def Ppu.shiftTile (q : Ppu) : Ppu := { q with tileData := q.tileData <<< 4 }

/-! ## Scroll updates -/

/-- CopyX (R356). -/
def Ppu.copyX (q : Ppu) : Ppu := { q with v := (q.v &&& 0x7BE0) ||| (q.t &&& 0x041F) }

/-- CopyY (R357). -/
def Ppu.copyY (q : Ppu) : Ppu := { q with v := (q.v &&& 0x041F) ||| (q.t &&& 0x7BE0) }

/-- The v that IncX makes (R358). -/
def incX (v : BitVec 15) : BitVec 15 := if v &&& 0x001F = 31 then (v &&& 0x7FE0) ^^^ 0x0400 else v + 1

/-- The v that IncY makes (R359). -/
def incY (v : BitVec 15) : BitVec 15 :=
  if v &&& 0x7000 ≠ 0x7000 then v + 0x1000
  else
    let v0 := v &&& 0x0FFF
    let y := (v0 >>> 5) &&& 0x1F
    if y = 29 then (v0 ^^^ 0x0800) &&& 0x7C1F
    else if y = 31 then v0 &&& 0x7C1F
    else (v0 &&& 0x7C1F) ||| ((y + 1) <<< 5)

/-! ## Sprites -/

/-- Byte `k` of OAM sprite `n` (R34). -/
def Ppu.oamByte (q : Ppu) (n k : Nat) : Byte := q.oam.read (4 * n + k)

/-- The sprite height (R31, R360). -/
def Ppu.spriteHeight (q : Ppu) : Nat := if q.ctrl.getLsbD 5 then 16 else 8

/-- The row after the vertical flip (R361). -/
def flipRow (attr : Byte) (row h : Nat) : Nat := if attr.getLsbD 7 then h - 1 - row else row

/-- SpriteAddr (R361). -/
def Ppu.spriteAddr (q : Ppu) (tile attr : Byte) (row h : Nat) : Word :=
  let r := flipRow attr row h
  if h = 8 then BitVec.ofNat 16 (0x1000 * bit (q.ctrl.getLsbD 3) + 16 * tile.toNat + r)
  else
    let table := tile.toNat % 2
    let t2 := tile.toNat - tile.toNat % 2
    if 7 < r then BitVec.ofNat 16 (0x1000 * table + 16 * (t2 + 1) + (r - 8))
    else BitVec.ofNat 16 (0x1000 * table + 16 * t2 + r)

/-- The plane bit of the sprite pixel `i`, after the horizontal flip (R362). -/
def flipBit (attr : Byte) (i : Nat) : Nat := if attr.getLsbD 6 then i else 7 - i

/-- The pattern value of the sprite pixel `i` (R362). -/
def spritePattern (attr lo hi : Byte) (i : Nat) : BitVec 2 :=
  let b := flipBit attr i
  (BitVec.ofNat 2 (bit (hi.getLsbD b)) <<< 1) ||| BitVec.ofNat 2 (bit (lo.getLsbD b))

/-- The sprite pixel at `x` (R40). -/
def spriteAt (line : Sparse SpritePixel) (x : Nat) : SpritePixel := Sparse.get .transparent line x

/-- One pixel of Rasterize (R362): taken pixels, pattern 0 and pixels past the right edge are dropped. -/
def putSpritePixel (attr : Byte) (left : Nat) (zero : Bool) (lo hi : Byte) (line : Sparse SpritePixel) (i : Nat) :
    Sparse SpritePixel :=
  let pat := spritePattern attr lo hi i
  if left + i ≤ 255 ∧ pat ≠ 0 ∧ spriteAt line (left + i) = .transparent then
    Sparse.set .transparent line (left + i) (.solid (attr.setWidth 2) pat zero)
  else line

/-- Rasterize(n, row, h) into a line buffer (R362). -/
def rasterize (n row h : Nat) (line : Sparse SpritePixel) (s : State) : Sparse SpritePixel :=
  let q := s.ppu
  let a := q.spriteAddr (q.oamByte n 1) (q.oamByte n 2) row h
  let lo := ppuRead a s
  let hi := ppuRead (a + 8) s
  [0, 1, 2, 3, 4, 5, 6, 7].foldl (putSpritePixel (q.oamByte n 2) (q.oamByte n 3).toNat (n == 0) lo hi) line

/-- The scan of EvaluateSprites (R360) over the sprites `n`, `n + 1`, … : the line buffer, and whether a ninth match was met. -/
def scanSprites (s : State) (scanline h : Nat) : Nat → Nat → Nat → Sparse SpritePixel → Sparse SpritePixel × Bool
  | 0, _, _, line => (line, false)
  | left + 1, n, count, line =>
    let top := (s.ppu.oamByte n 0).toNat
    if top ≤ scanline ∧ scanline - top < h then
      if count = 8 then (line, true)
      else scanSprites s scanline h left (n + 1) (count + 1) (rasterize n (scanline - top) h line s)
    else scanSprites s scanline h left (n + 1) count line

/-- EvaluateSprites(s) (R360). -/
def evaluateSprites (scanline : Nat) (s : State) : State :=
  let r := scanSprites s scanline s.ppu.spriteHeight 64 0 0 []
  s.setPpu { s.ppu with spriteLine := r.1, spriteOverflow := s.ppu.spriteOverflow || r.2 }

/-! ## Pixel composition -/

/-- The background pixel at `x` (R370). -/
def Ppu.bgPixel (q : Ppu) (x : Nat) : BitVec 4 :=
  if q.mask.getLsbD 3 = false ∨ (x < 8 ∧ q.mask.getLsbD 1 = false) then 0
  else ((q.tileData >>> 32) >>> ((7 - q.x.toNat) * 4)).setWidth 4

/-- "opaque when bg & 3 ≠ 0" (R370). -/
def bgOpaque (bg : BitVec 4) : Bool := bg &&& 3 != 0

/-- The sprite pixel at `x`, after clipping (R371). -/
def Ppu.spritePixel (q : Ppu) (x : Nat) : SpritePixel :=
  if q.mask.getLsbD 4 = false ∨ (x < 8 ∧ q.mask.getLsbD 2 = false) then .transparent else spriteAt q.spriteLine x

/-- The colour index (R372). -/
def composeColor (bg : BitVec 4) (sp : SpritePixel) : BitVec 5 :=
  match sp with
  | .solid pal pat _ => 0x10 ||| (pal.setWidth 5 <<< 2) ||| pat.setWidth 5
  | .transparent => if bgOpaque bg then bg.setWidth 5 else 0

/-- The value a colour index puts out: palette lookup and greyscale (R373). -/
def outputColor (color : BitVec 5) (s : State) : BitVec 6 :=
  let c := ppuRead (0x3F00 ||| color.setWidth 16) s
  ((if s.ppu.mask.getLsbD 0 then c &&& 0x30 else c) &&& 0x3F).setWidth 6

/-- Sprite-zero hit at `x` (R374). -/
def spriteZeroHit (bg : BitVec 4) (sp : SpritePixel) (x : Nat) : Bool :=
  match sp with
  | .solid _ _ true => bgOpaque bg && x != 255
  | _ => false

/-- A pixel of a frame (R41). -/
def framePixel (f : Sparse (BitVec 6)) (x y : Nat) : BitVec 6 := Sparse.get 0 f (256 * y + x)

/-- `frame[1 - front][y][x] <- c` (R41, R373). -/
def Ppu.putPixel (q : Ppu) (x y : Nat) (c : BitVec 6) : Ppu :=
  if q.front = 0 then { q with frame1 := Sparse.set 0 q.frame1 (256 * y + x) c }
  else { q with frame0 := Sparse.set 0 q.frame0 (256 * y + x) c }

/-- RenderPixel(x, y) (R370 to R374). -/
def renderPixel (x y : Nat) (s : State) : State :=
  let bg := s.ppu.bgPixel x
  let sp := s.ppu.spritePixel x
  let q := s.ppu.putPixel x y (outputColor (composeColor bg sp) s)
  s.setPpu { q with sprite0Hit := q.sprite0Hit || spriteZeroHit bg sp x }

/-- Backdrop(x, y), with rendering disabled (R375). -/
def backdrop (x y : Nat) (s : State) : State := s.setPpu (s.ppu.putPixel x y (outputColor 0 s))

/-! ## The schedule -/

/-- "1–256" (R350). -/
def visibleCycle (c : Nat) : Bool := decide (1 ≤ c) && decide (c ≤ 256)

/-- "cycles 1–256 and 321–336" (R350). -/
def fetchCycle (c : Nat) : Bool := visibleCycle c || (decide (321 ≤ c) && decide (c ≤ 336))

/-- The fetch of a fetch cycle, after the shift of the tile register (R350, R352). -/
def fetchStep (c : Nat) (s : State) : State :=
  let s1 := s.setPpu s.ppu.shiftTile
  match c % 8 with
  | 1 => fetchNt s1
  | 3 => fetchAt s1
  | 5 => fetchLo s1
  | 7 => fetchHi s1
  | 0 => s1.setPpu s1.ppu.storeTile
  | _ => s1

/-- A step that happens only when its condition holds. -/
def when (b : Bool) (f : State → State) (s : State) : State := if b then f s else s

/-- The scroll updates of a render line, in order (R350, R356 to R359). -/
def scrollStep (line c : Nat) (s : State) : State :=
  let s1 := when (line == 261 && decide (280 ≤ c) && decide (c ≤ 304)) (fun s => s.setPpu s.ppu.copyY) s
  let s2 := when (fetchCycle c && c % 8 == 0) (fun s => s.setPpu { s.ppu with v := incX s.ppu.v }) s1
  let s3 := when (c == 256) (fun s => s.setPpu { s.ppu with v := incY s.ppu.v }) s2
  when (c == 257) (fun s => s.setPpu s.ppu.copyX) s3

/-- The sprite work of cycle 257 (R350, R360, R363). -/
def spriteStep (line c : Nat) (s : State) : State :=
  if c = 257 then
    if line ≤ 239 then evaluateSprites line s
    else if line = 261 then s.setPpu { s.ppu with spriteLine := [] }
    else s
  else s

/-- PpuActions(s, c) (R350). -/
def ppuActions (line c : Nat) (s : State) : State :=
  let visibleLine := decide (line ≤ 239)
  let renderLine := visibleLine || line == 261
  if s.ppu.renderingEnabled then
    let s1 := when (visibleLine && visibleCycle c) (renderPixel (c - 1) line) s
    let s2 := when (renderLine && fetchCycle c) (fetchStep c) s1
    let s3 := when renderLine (scrollStep line c) s2
    spriteStep line c s3
  else when (visibleLine && visibleCycle c) (backdrop (c - 1) line) s

/-- VblankStart (R311). -/
def vblankStart (s : State) : State :=
  let s1 := s.setPpu { s.ppu with vblank := true }
  when (s1.ppu.ctrl.getLsbD 7) State.raiseNmi s1

/-- The pre-render clear (R312). -/
def preRenderClear (s : State) : State :=
  s.setPpu { s.ppu with vblank := false, sprite0Hit := false, spriteOverflow := false }

/-- Advance (R310): the counters, and the frame swap. -/
def Ppu.advance (q : Ppu) : Ppu :=
  if q.cycle + 1 ≤ 340 then { q with cycle := q.cycle + 1 }
  else if q.scanline + 1 ≤ 261 then { q with cycle := 0, scanline := q.scanline + 1 }
  else { q with cycle := 0, scanline := 0, front := 1 - q.front }

/-- PpuTick() (R300). -/
def ppuTick (s : State) : State :=
  let line := s.ppu.scanline
  let c := s.ppu.cycle
  let s1 := ppuActions line c s
  let s2 := when (line == 241 && c == 1) vblankStart s1
  let s3 := when (line == 261 && c == 1) preRenderClear s2
  s3.setPpu s3.ppu.advance

/-- `n` PPU ticks (R420). -/
def ppuTicks : Nat → State → State
  | 0, s => s
  | n + 1, s => ppuTicks n (ppuTick s)

/-- `getPixels()` at one pixel (R314): the presentation side only; no state changes. -/
def getPixel (x y : Nat) (s : State) : BitVec 32 :=
  Config.systemPalette (framePixel (if s.ppu.front = 0 then s.ppu.frame0 else s.ppu.frame1) x y)

end Sys2Proof.Machine
end

