-- ==== Sys2Proof/Machine/Step.lean ====
section
/-! DEFINITION. One step: a host move, or one iteration of the driver loop (spec/60_exceptions.md R406, R420). -/

namespace Sys2Proof.Machine

/-- Why no agent has a step, if so (R406 point 1, R420). -/
def stopReason (s : State) : Option Fault :=
  if s.running = false then some (.halted s.haltCause)
  else if s.haltFault then some .busFaultHalt
  else if s.quit then some .hostQuit
  else none

/-- `CpuTick()` (R140): an interrupt service, or one instruction. The state's `cycles` is the count it returns. -/
def cpuTick (s : State) : Host.Outcome State Fault Refusal :=
  match interruptToService s with
  | some k => .next ((serviceInterrupt k s).state.setCycles 0)
  | none =>
    match fetch s with
    | .ok i s1 => exec i s1
    | .stop s1 => .next (s1.setCycles 0)

/-- The PPU ticks the driver runs after a CPU tick, three for each cycle it returned; the count is then used up (R420). -/
def catchUp (s : State) : State := (ppuTicks (3 * s.cycles) s).setCycles 0

/-- The PPU after a CPU tick. -/
def afterTick (r : Host.Outcome State Fault Refusal) : Host.Outcome State Fault Refusal :=
  match r with
  | .next s => .next (catchUp s)
  | .fault f => .fault f
  | .refused f => .refused f

/-- One iteration of the driver loop (R420). -/
def iterate (s : State) : Host.Outcome State Fault Refusal :=
  match stopReason s with
  | some f => .fault f
  | none => afterTick (cpuTick s)

/-- One step. -/
def step (s : State) : Host.Outcome State Fault Refusal :=
  match s.host with
  | [] => iterate s
  | .run :: rest => iterate { s with host := rest }
  | m :: rest => .next (hostMove m { s with host := rest })

/-- The state with an instruction's bytes placed where the next step fetches, and nothing before the fetch. -/
def State.withFetchWord (s : State) (nbits w : Nat) : State :=
  placeBytes s.readyToFetch.pc (tableBytes nbits w) s.readyToFetch

end Sys2Proof.Machine
end

