-- ==== Sys2Proof/Safety.lean ====
section
/-! DEFINITION. What holds of every state of a run, and what a successful run is: the terms claims use. -/

namespace Sys2Proof.Machine

/-- Every memory is in canonical form with the addresses the spec gives it: RAM 2KB (R27), nametable RAM 2KB and palette RAM
32 bytes (R42), OAM 256 bytes (R34), save RAM 8KB, PRG-ROM and CHR-ROM of the cartridge's size (R43), the sprite line of 256
entries (R40) and the two frames of 256 × 240 (R41). -/
def State.memoriesWf (s : State) : Bool :=
  s.ram.wf 0x800 && s.ntRam.wf 0x800 && s.palRam.wf 32 && s.ppu.oam.wf 256 && s.cart.prgRam.wf 0x2000 &&
    s.cart.prg.wf s.cart.prgSize && s.cart.chr.wf s.cart.chrSize && Sparse.wf .transparent 256 s.ppu.spriteLine &&
    Sparse.wf 0 61440 s.ppu.frame0 && Sparse.wf 0 61440 s.ppu.frame1

/-- In the live status register bit 5 is 1 and bit 4 is 0 (R23). -/
def State.statusWf (s : State) : Bool := s.p.getLsbD 5 && !s.p.getLsbD 4

/-- The counters are in their ranges (R38). -/
def State.countersWf (s : State) : Bool := decide (s.ppu.cycle ≤ 340) && decide (s.ppu.scanline ≤ 261)

/-- The fetched attribute value is two bits, shifted left by 2 (R39). -/
def State.latchWf (s : State) : Bool := s.ppu.atBits &&& 0xF3 == 0

/-- The mapper's registers: the serial shift register still holds its marker bit (R91), and a fixed-bank cartridge mirrors
horizontally or vertically (R44). -/
def State.mapperWf (s : State) : Bool :=
  s.cart.shift != 0 && (s.cart.kind != .fixed || s.cart.mirror == .horizontal || s.cart.mirror == .vertical)

/-- The machine is halted exactly when a cause is recorded (R25), and that halt is in the log (R401). -/
def State.haltWf (s : State) : Bool :=
  match s.haltCause with
  | none => s.running
  | some op => !s.running && s.faults.contains (.halt op)

/-- No CPU cycle is owed to the PPU between two iterations of the driver loop (R420). -/
def State.settled (s : State) : Bool := s.cycles == 0

/-- A run has ended successfully (R422): at a tick boundary the pc is END_PC, the machine runs, no fault is recorded and the host
has not quit. -/
def State.endedSuccessfully (s : State) : Bool :=
  s.params.endPc == some s.pc && s.running && s.faults == [] && !s.quit

/-! ## The terms of claims about one instruction -/

/-- Each instruction is one of the table, is encoded as the bytes beside it, and has the base cycles beside them (R130). -/
def encodesAs (l : List (Instr × List Byte × Nat)) : Prop :=
  ∀ p ∈ l, p.1.wellFormed = true ∧ encode p.1 = p.2.1 ∧ (rowOf p.1.opcode).cycles = p.2.2

/-- The 25 halting opcodes and the instructions they are (R291). -/
def haltingInstrs : List (Byte × Instr) :=
  [(0x02, .kil 0x02), (0x12, .kil 0x12), (0x22, .kil 0x22), (0x32, .kil 0x32), (0x42, .kil 0x42), (0x52, .kil 0x52),
    (0x62, .kil 0x62), (0x72, .kil 0x72), (0x92, .kil 0x92), (0xB2, .kil 0xB2), (0xD2, .kil 0xD2), (0xF2, .kil 0xF2),
    (0x0B, .anc 0x0B), (0x2B, .anc 0x2B), (0x4B, .alr), (0x6B, .arr), (0x8B, .xaa), (0x93, .ahx 0x93), (0x9F, .ahx 0x9F),
    (0x9B, .tas), (0x9C, .shy), (0x9E, .shx), (0xAB, .lxa), (0xBB, .las), (0xCB, .axs)]

/-- Mapper 1's registers after the value `v` has been dispatched to the address `a` (R92). -/
def dispatched (c : Cart) (a : Word) (v : BitVec 5) : Cart :=
  if a.toNat ≤ 0x9FFF then
    { c with control := v, mirror :=
      if v.toNat % 4 = 0 then .single0 else if v.toNat % 4 = 1 then .single1
      else if v.toNat % 4 = 2 then .vertical else .horizontal }
  else if a.toNat ≤ 0xBFFF then { c with chr0 := v }
  else if a.toNat ≤ 0xDFFF then { c with chr1 := v }
  else { c with prgReg := v }

/-- The byte a read-class instruction loads and the state the access leaves: the immediate byte, or one read of the effective
address (R151). -/
def operandRead (m : ReadOperand) (s : State) : Bus Byte :=
  match m with
  | .imm b => .ok b s
  | .mem m => cpuRead (addressed m s).addr s

/-- Whether the effective address of a read-class instruction lies in another page than its base (R144, R146). -/
def operandCrossed (m : ReadOperand) (s : State) : Bool :=
  match m with
  | .imm _ => false
  | .mem m => (addressed m s).crossed

/-- The cycle count of an executed instruction that is no branch (R152). -/
def cyclesOf (i : Instr) (crossed : Bool) : Nat := i.row.cycles + pagePenalty i crossed

/-- A read of this address goes on: it is in a region, or the policy is record_and_continue (R66, R400). -/
def readAnswers (a : Word) (s : State) : Bool := readable a || s.params.busFaultPolicy == .recordAndContinue

/-- The load of a read-class operand goes on. -/
def operandAnswers (m : ReadOperand) (s : State) : Bool :=
  match m with
  | .imm _ => true
  | .mem m => readAnswers (addressed m s).addr s

/-- A write of `d` to this address goes on: it is in a region, and where it starts an OAM-DMA transfer so is all of the source
page; or the policy is record_and_continue (R66, R320, R400). -/
def writeAnswers (a : Word) (d : Byte) (s : State) : Bool :=
  s.params.busFaultPolicy == .recordAndContinue ||
    (writable a && (a != 0x4014 || decide (d.toNat ≤ 0x3F) || decide (0x60 ≤ d.toNat)))

/-- The address is one of internal RAM or save RAM, where a write stores a byte (R61, R86, R90). -/
def storesByte (a : Word) : Bool := decide (a.toNat ≤ 0x1FFF) || (decide (0x6000 ≤ a.toNat) && decide (a.toNat ≤ 0x7FFF))

/-- Two CPU addresses name one byte: the same address, or mirrors in internal RAM (R61). -/
def sameCell (a b : Word) : Bool :=
  a == b || (decide (a.toNat ≤ 0x1FFF) && decide (b.toNat ≤ 0x1FFF) && a.toNat % 0x800 == b.toNat % 0x800)

/-- P after SetZN of `r`, said flag by flag: Z and N are of `r`, the other flags and bits 4 and 5 are as before (R11). -/
def zeroNegativeOf (r p p' : Byte) : Prop :=
  getFlag .z p' = decide (r.toNat = 0) ∧ getFlag .n p' = decide (128 ≤ r.toNat) ∧
    (∀ f, f ≠ .z → f ≠ .n → getFlag f p' = getFlag f p) ∧ p' &&& 0x30 = p &&& 0x30

/-- One flag has a new value and every other bit of P is as before. -/
def onlyFlag (f : Flag) (b : Bool) (p p' : Byte) : Prop :=
  getFlag f p' = b ∧ (∀ g, g ≠ f → getFlag g p' = getFlag g p) ∧ p' &&& 0x30 = p &&& 0x30

/-- `r` and P after an addition with carry of `m` to `a` (R155): the result is the sum cut to 8 bits, C is set when the sum is
0x100 or more, V is the rule's sign-bit mismatch test, Z and N are of the result; I, D and bits 4 and 5 are as before. -/
def addsTo (a m p r p' : Byte) : Prop :=
  r.toNat = (a.toNat + m.toNat + bit (getFlag .c p)) % 256 ∧
    getFlag .c p' = decide (256 ≤ a.toNat + m.toNat + bit (getFlag .c p)) ∧
    getFlag .v p' = decide (~~~(a ^^^ m) &&& (a ^^^ r) &&& 0x80 ≠ 0) ∧
    getFlag .z p' = decide (r.toNat = 0) ∧ getFlag .n p' = decide (128 ≤ r.toNat) ∧
    getFlag .i p' = getFlag .i p ∧ getFlag .d p' = getFlag .d p ∧ p' &&& 0x30 = p &&& 0x30

/-- P after a comparison of `src` with `m` (R157): C is set when `src` is at least `m`, Z and N are of the difference cut to 8
bits; V, I, D and bits 4 and 5 are as before. -/
def comparesTo (src m p p' : Byte) : Prop :=
  getFlag .c p' = decide (m.toNat ≤ src.toNat) ∧ getFlag .z p' = decide (src = m) ∧
    getFlag .n p' = decide (128 ≤ (src.toNat + 256 - m.toNat) % 256) ∧ getFlag .v p' = getFlag .v p ∧
    getFlag .i p' = getFlag .i p ∧ getFlag .d p' = getFlag .d p ∧ p' &&& 0x30 = p &&& 0x30

/-- The byte and the carry out of a shift or rotate of `m` with carry `c` in, in unbounded integers (R158). -/
def shiftsTo (k : ShiftKind) (m : Byte) (c : Bool) (r : Byte) (out : Bool) : Prop :=
  match k with
  | .asl => 2 * m.toNat = 256 * bit out + r.toNat
  | .rol => 2 * m.toNat + bit c = 256 * bit out + r.toNat
  | .lsr => m.toNat = 2 * r.toNat + bit out
  | .ror => m.toNat + 256 * bit c = 2 * r.toNat + bit out

/-- P after a shift with result `r` and carry out `out`: C, Z and N are theirs; V, I, D and bits 4 and 5 are as before. -/
def shiftFlags (r : Byte) (out : Bool) (p p' : Byte) : Prop :=
  getFlag .c p' = out ∧ getFlag .z p' = decide (r.toNat = 0) ∧ getFlag .n p' = decide (128 ≤ r.toNat) ∧
    getFlag .v p' = getFlag .v p ∧ getFlag .i p' = getFlag .i p ∧ getFlag .d p' = getFlag .d p ∧ p' &&& 0x30 = p &&& 0x30

end Sys2Proof.Machine
end

