-- ==== Sys2Proof/Certificates/Slice0/Obligations.lean ====
section
/-! DEFINITION. The statements about the model. `s` is the state an instruction or a step starts from; a conclusion
`… = .next { s with … }` says what is written and that everything else is as it was. -/

section

open Sys2Proof Sys2Proof.Machine

/-! ## Encoding -/

/-- Decoding the bytes of a well-formed instruction, whatever follows them, gives the instruction back (R120 to R122). -/
def Obligations.DecodeOfEncode : Prop :=
  ∀ (i : Instr) (rest : List Byte), i.wellFormed = true → decode (encode i ++ rest) = .ok i

/-- Every opcode byte is the opcode of one row, and every instruction it begins is well-formed and has that row's mnemonic and
length, whatever its operand bytes (R120, R123, R126). -/
def Obligations.EveryOpcodeByteSelectsItsRow : Prop :=
  ∀ op b1 b2 : Byte, (rowOf op).opcode = op ∧ ∃ i, decode [op, b1, b2] = .ok i ∧ i.wellFormed = true ∧ i.opcode = op ∧
    i.mnemonic = (rowOf op).mnemonic ∧ i.size = (rowOf op).size

/-- Words written out from the encodings of the rules and of R121 and R128. -/
def Obligations.SampleWordsDecode : Prop :=
  decode [0x69, 0x05] = .ok (.adc (.imm 0x05)) ∧ decode [0xA5, 0x10] = .ok (.lda (.mem (.zp 0x10))) ∧
  decode [0x95, 0x10] = .ok (.sta (.zpX 0x10)) ∧ decode [0xB6, 0x10] = .ok (.ldx (.mem (.zpY 0x10))) ∧
  decode [0x4C, 0x00, 0xC0] = .ok (.jmp (.abs 0xC000)) ∧ decode [0x6C, 0xFF, 0x02] = .ok (.jmp (.ind 0x02FF)) ∧
  decode [0xBD, 0x00, 0x02] = .ok (.lda (.mem (.absX 0x0200))) ∧ decode [0x99, 0x34, 0x12] = .ok (.sta (.absY 0x1234)) ∧
  decode [0xA1, 0x20] = .ok (.lda (.mem (.indX 0x20))) ∧ decode [0x91, 0x20] = .ok (.sta (.indY 0x20)) ∧
  decode [0xD0, 0xF9] = .ok (.bne 0xF9) ∧ decode [0x0A] = .ok (.asl .acc) ∧ decode [0xE8] = .ok .inx ∧
  decode [0x00, 0x77] = .ok .brk ∧ decode [0x40] = .ok .rti ∧ decode [0xEB, 0x01] = .ok (.sbcEB 0x01) ∧
  decode [0x1C, 0xCD, 0xAB] = .ok (.nopUnofficial 0x1C (.mem (.absX 0xABCD))) ∧ decode [0x7B, 0xCD, 0xAB] = .ok (.rra (.absY 0xABCD)) ∧
  decode [0x02] = .ok (.kil 0x02) ∧ decode [0xCB, 0x55] = .ok .axs

/-! ## The step -/

/-- Where nothing stands before the fetch and the bytes from the pc on are those of a well-formed instruction, a step is that
instruction and then three PPU ticks for every cycle it returned (R140, R420). The two forms of the host list that let the
driver loop run are covered. That a step is one iteration of that loop, and the host list, are the model's choice (log entries
8 and 9). -/
def Obligations.StepRunsTheDecodedInstruction : Prop :=
  ∀ (i : Instr) (s t : State), i.wellFormed = true → stopReason s = none → interruptToService s = none →
    (∀ (k : Nat) (b : Byte), (encode i)[k]? = some b → byteAt (s.pc + BitVec.ofNat 16 k) s = some b) →
    exec i s = .next t →
    step { s with host := .run :: s.host } = .next { ppuTicks (3 * t.cycles) t with cycles := 0 } ∧
      (s.host = [] → step s = .next { ppuTicks (3 * t.cycles) t with cycles := 0 })

/-- The opcode byte, then the operand bytes its format has, are read one by one through the bus router, each in the state the
read before it left; a halting opcode reads none (R113, R140, R150). The pc wraps at 16 bits. Under the halt policy a fetch from
an address in no region ends the tick with the fault recorded and no cycles: at the opcode with the pc there, at an operand byte
with the pc past the instruction (R400). That an immediate byte is read here too, the pc after a faulting operand byte and the
cycle count of a faulting tick are read from the spec by inference (log entries 14, 11 and 21). -/
def Obligations.FetchReadsTheBytesInOrder : Prop :=
  ∀ s : State, interruptToService s = none →
    (s.params.busFaultPolicy = .halt → readable s.pc = false →
      cpuTick s = .next { s with faults := s.faults ++ [.busFault s.pc .read], cycles := 0 }) ∧
    ∀ (s1 : State) (op : Byte), cpuRead s.pc s = .ok op s1 →
      (haltsOn op s.params = true →
        cpuTick s = .next { s1 with running := false, haltCause := some op, faults := s1.faults ++ [.halt op], cycles := 0 }) ∧
      (haltsOn op s.params = false →
        (operandBytes op = 0 → ∃ i, decode [op] = .ok i ∧ cpuTick s = exec i s1) ∧
        (∀ (b1 : Byte) (s2 : State), operandBytes op = 1 → cpuRead (s.pc + 1) s1 = .ok b1 s2 →
          ∃ i, decode [op, b1] = .ok i ∧ cpuTick s = exec i s2) ∧
        (∀ (b1 b2 : Byte) (s2 s3 : State), operandBytes op = 2 → cpuRead (s.pc + 1) s1 = .ok b1 s2 →
          cpuRead (s.pc + 2) s2 = .ok b2 s3 → ∃ i, decode [op, b1, b2] = .ok i ∧ cpuTick s = exec i s3) ∧
        (s.params.busFaultPolicy = .halt →
          (operandBytes op ≠ 0 → readable (s.pc + 1) = false →
            cpuTick s = .next { s1 with
              pc := s.pc + BitVec.ofNat 16 (1 + operandBytes op)
              faults := s1.faults ++ [.busFault (s.pc + 1) .read], cycles := 0 }) ∧
          (∀ (b1 : Byte) (s2 : State), operandBytes op = 2 → cpuRead (s.pc + 1) s1 = .ok b1 s2 → readable (s.pc + 2) = false →
            cpuTick s = .next { s2 with
              pc := s.pc + 3, faults := s2.faults ++ [.busFault (s.pc + 2) .read], cycles := 0 })))

/-- A pending NMI, or a pending IRQ while I is 0, is serviced before any fetch: the pc and the status byte with bit 4 clear and
bit 5 set are pushed, I becomes 1, the pc is the word at the vector, the cell is empty, and no PPU tick follows (R402, R403). -/
def Obligations.InterruptIsServiced : Prop :=
  ∀ (s : State) (k : Interrupt), s.host = [] → stopReason s = none → s.pending = some k →
    (k = .nmi ∨ getFlag .i s.p = false) →
    ∃ p', onlyFlag .i true s.p p' ∧
      step s = .next { s with
        ram := ((s.ram.write (0x100 + s.sp.toNat) (hiByte s.pc)).write (0x100 + (s.sp - 1).toNat) (loByte s.pc)).write
          (0x100 + (s.sp - 2).toNat) ((s.p &&& 0xEF) ||| 0x20)
        sp := s.sp - 3
        p := p'
        pc := match k with
          | .nmi => mkWord (s.cart.cpuRead 0xFFFA) (s.cart.cpuRead 0xFFFB)
          | .irq => mkWord (s.cart.cpuRead 0xFFFE) (s.cart.cpuRead 0xFFFF)
        pending := none
        cycles := 0 }

/-- The 25 halting opcodes, and an opcode of class unofficial that is not in UNOFFICIAL_SET whatever its operands: the CPU stops,
the cause and the halt are recorded, nothing else changes, and no later step runs (R280, R291, R401). -/
def Obligations.OpcodesThatHaltTheCpu : Prop :=
  (∀ (rest : List Byte), ∀ p ∈ haltingInstrs, decode (p.1 :: rest) = .ok p.2) ∧
  ∀ (i : Instr) (s : State), i.wellFormed = true →
    ((∃ op, (op, i) ∈ haltingInstrs) ∨
      (unofficialOpcodes.contains i.opcode = true ∧ s.params.unofficialSet.contains i.opcode = false)) →
    ∃ t, exec i s = .next t ∧
      t = { s with
        running := false, haltCause := some i.opcode, faults := s.faults ++ [.halt i.opcode], cycles := 0 } ∧
      (s.host = [] → step t = .fault (.halted (some i.opcode)))

/-- A step stops the machine exactly when the driver loop's turn has come and the CPU has halted, or the policy is halt and a bus
fault is recorded, or the host has quit; and no step is refused (R401, R406, R420). The host list is the model's own (log
entry 9). -/
def Obligations.StepStopsExactlyWhenNoAgentSteps : Prop :=
  ∀ s : State, ((∃ f, step s = .fault f) ↔
      (s.host = [] ∨ s.host.head? = some .run) ∧
        (s.running = false ∨ (s.params.busFaultPolicy = .halt ∧ ∃ a k, FaultRecord.busFault a k ∈ s.faults) ∨ s.quit = true)) ∧
    ∀ r, step s ≠ .refused r

/-- Every instruction, well-formed or not, in every state ends in a next state: no meaning stops the machine or is refused. None
of the table returns more than 8 cycles, so the PPU moves by at most 24 ticks between two instructions (R313, R457). That a halt
and a halt-policy fault are next states, after which the next step stops, is the model's choice (log entry 10), and so is the
meaning of an ill-formed instruction (log entry 13). -/
def Obligations.EveryInstructionAnswersANextState : Prop :=
  ∀ (i : Instr) (s : State), ∃ t, exec i s = .next t ∧ (i.wellFormed = true → t.cycles ≤ 8)

/-- Under the halt policy an instruction whose data access or pointer read is to an address in no region ends at that access: the
fault is recorded, the pc is past the instruction, and no register, flag or byte of memory is written. The same holds of a store
that starts an OAM-DMA transfer from a page in no region (R66, R159, R320, R400). That such a tick returns no cycles is log
entry 21. -/
def Obligations.HaltPolicyEndsTheInstructionAtTheAccess : Prop :=
  ∀ (m : AddrMode) (i : Instr) (s : State), i.wellFormed = true → haltsOn i.opcode s.params = false →
    s.params.busFaultPolicy = .halt →
    ((i ∈ [Instr.lda (.mem m), .ldx (.mem m), .ldy (.mem m), .adc (.mem m), .sbc (.mem m), .and (.mem m), .ora (.mem m),
        .eor (.mem m), .cmp (.mem m), .cpx (.mem m), .cpy (.mem m), .bit m, .inc m, .dec m, .asl (.mem m), .lsr (.mem m),
        .rol (.mem m), .ror (.mem m), .lax m, .dcp m, .isb m, .slo m, .rla m, .sre m, .rra m] ∨
        ∃ op, i = .nopUnofficial op (.mem m)) →
      readable (addressed m s).addr = false →
      exec i s = .next { s with
        pc := nextPc i s, cycles := 0, faults := s.faults ++ [.busFault (addressed m s).addr .read] }) ∧
    (∀ d : Byte, (i, d) ∈ [(Instr.sta m, s.a), (.stx m, s.x), (.sty m, s.y), (.sax m, s.a &&& s.x)] →
      (writable (addressed m s).addr = false →
        exec i s = .next { s with
          pc := nextPc i s, cycles := 0, faults := s.faults ++ [.busFault (addressed m s).addr .write] }) ∧
      ((addressed m s).addr = 0x4014 → 0x40 ≤ d.toNat → d.toNat ≤ 0x5F →
        exec i s = .next { s with
          pc := nextPc i s, cycles := 0, faults := s.faults ++ [.busFault (BitVec.ofNat 16 (256 * d.toNat)) .read] })) ∧
    (∀ w second : Word, i = .jmp (.ind w) → second = BitVec.ofNat 16 (w.toNat / 256 * 256 + (w.toNat + 1) % 256) →
      (readable w = false →
        exec i s = .next { s with pc := nextPc i s, cycles := 0, faults := s.faults ++ [.busFault w .read] }) ∧
      (∀ (lo : Byte) (s1 : State), cpuRead w s = .ok lo s1 → readable second = false →
        exec i s = .next { s1 with pc := nextPc i s, cycles := 0, faults := s1.faults ++ [.busFault second .read] }))

/-! ## Addresses, words and cycles -/

/-- GetAddress for the eight formats with an effective address, in unbounded integers, and that it changes nothing and never
stops (R121, R142 to R146). -/
def Obligations.EffectiveAddressOfEveryFormat : Prop :=
  ∀ (s : State) (b : Byte) (w : Word),
    (∀ m, effAddr m s = .ok (addressed m s) s) ∧
    (addressed (.zp b) s).addr.toNat = b.toNat ∧
    (addressed (.zpX b) s).addr.toNat = (b.toNat + s.x.toNat) % 256 ∧
    (addressed (.zpY b) s).addr.toNat = (b.toNat + s.y.toNat) % 256 ∧
    (addressed (.abs w) s).addr = w ∧
    (addressed (.absX w) s).addr.toNat = (w.toNat + s.x.toNat) % 65536 ∧
    (addressed (.absY w) s).addr.toNat = (w.toNat + s.y.toNat) % 65536 ∧
    (addressed (.indX b) s).addr.toNat =
      (s.ram.read ((b.toNat + s.x.toNat) % 256)).toNat + 256 * (s.ram.read ((b.toNat + s.x.toNat + 1) % 256)).toNat ∧
    (addressed (.indY b) s).addr.toNat =
      ((s.ram.read b.toNat).toNat + 256 * (s.ram.read ((b.toNat + 1) % 256)).toNat + s.y.toNat) % 65536 ∧
    (addressed (.absX w) s).crossed = decide (w.toNat / 256 ≠ (addressed (.absX w) s).addr.toNat / 256) ∧
    (addressed (.absY w) s).crossed = decide (w.toNat / 256 ≠ (addressed (.absY w) s).addr.toNat / 256) ∧
    (addressed (.indY b) s).crossed =
      decide ((s.ram.read ((b.toNat + 1) % 256)).toNat ≠ (addressed (.indY b) s).addr.toNat / 256) ∧
    (∀ m ∈ [AddrMode.zp b, .zpX b, .zpY b, .abs w, .indX b], (addressed m s).crossed = false)

/-- A word is read low byte first; in ReadWordBug the high byte comes from the same page (R70, R71). -/
def Obligations.WordReadsAndThePageWrap : Prop :=
  ∀ (a : Word) (s s1 s2 : State) (lo hi : Byte), cpuRead a s = .ok lo s1 →
    (cpuRead (BitVec.ofNat 16 (a.toNat + 1)) s1 = .ok hi s2 →
      ∃ w, readWord a s = .ok w s2 ∧ w.toNat = lo.toNat + 256 * hi.toNat) ∧
    (cpuRead (BitVec.ofNat 16 (a.toNat / 256 * 256 + (a.toNat + 1) % 256)) s1 = .ok hi s2 →
      ∃ w, readWordBug a s = .ok w s2 ∧ w.toNat = lo.toNat + 256 * hi.toNat)

/-- The page-cross penalty is one cycle, for the forms the rule names and no other (R149). -/
def Obligations.PageCrossPenaltyForms : Prop :=
  ∀ (i : Instr) (crossed : Bool), i.wellFormed = true →
    (pagePenalty i crossed = 1 ↔ crossed = true ∧ ∃ (w : Word) (b : Byte),
      i ∈ [Instr.lda (.mem (.absX w)), .lda (.mem (.absY w)), .lda (.mem (.indY b)), .ldx (.mem (.absY w)),
        .ldy (.mem (.absX w)), .eor (.mem (.absX w)), .eor (.mem (.absY w)), .eor (.mem (.indY b)),
        .and (.mem (.absX w)), .and (.mem (.absY w)), .and (.mem (.indY b)), .ora (.mem (.absX w)), .ora (.mem (.absY w)),
        .ora (.mem (.indY b)), .adc (.mem (.absX w)), .adc (.mem (.absY w)), .adc (.mem (.indY b)), .sbc (.mem (.absX w)),
        .sbc (.mem (.absY w)), .sbc (.mem (.indY b)), .cmp (.mem (.absX w)), .cmp (.mem (.absY w)), .cmp (.mem (.indY b)),
        .lax (.absY w), .lax (.indY b), .nopUnofficial i.opcode (.mem (.absX w))]) ∧
    (pagePenalty i crossed = 0 ∨ pagePenalty i crossed = 1)

/-! ## Loads, stores and transfers -/

/-- LDA, LDX and LDY in every form (R180 to R182). -/
def Obligations.LoadsWriteTheirRegister : Prop :=
  (∀ (b : Byte) (w : Word), encodesAs [
      (Instr.lda (.imm b), [0xA9, b], 2), (.lda (.mem (.zp b)), [0xA5, b], 3), (.lda (.mem (.zpX b)), [0xB5, b], 4),
      (.lda (.mem (.abs w)), [0xAD, loByte w, hiByte w], 4), (.lda (.mem (.absX w)), [0xBD, loByte w, hiByte w], 4),
      (.lda (.mem (.absY w)), [0xB9, loByte w, hiByte w], 4), (.lda (.mem (.indX b)), [0xA1, b], 6),
      (.lda (.mem (.indY b)), [0xB1, b], 5), (.ldx (.imm b), [0xA2, b], 2), (.ldx (.mem (.zp b)), [0xA6, b], 3),
      (.ldx (.mem (.zpY b)), [0xB6, b], 4), (.ldx (.mem (.abs w)), [0xAE, loByte w, hiByte w], 4),
      (.ldx (.mem (.absY w)), [0xBE, loByte w, hiByte w], 4), (.ldy (.imm b), [0xA0, b], 2),
      (.ldy (.mem (.zp b)), [0xA4, b], 3), (.ldy (.mem (.zpX b)), [0xB4, b], 4),
      (.ldy (.mem (.abs w)), [0xAC, loByte w, hiByte w], 4), (.ldy (.mem (.absX w)), [0xBC, loByte w, hiByte w], 4)]) ∧
  ∀ (m : ReadOperand) (s : State), operandAnswers m s = true →
    ∃ v s1 p', operandRead m s = .ok v s1 ∧ zeroNegativeOf v s.p p' ∧
      exec (.lda m) s = .next { s1 with
        a := v, p := p', pc := nextPc (.lda m) s, cycles := cyclesOf (.lda m) (operandCrossed m s) } ∧
      exec (.ldx m) s = .next { s1 with
        x := v, p := p', pc := nextPc (.ldx m) s, cycles := cyclesOf (.ldx m) (operandCrossed m s) } ∧
      exec (.ldy m) s = .next { s1 with
        y := v, p := p', pc := nextPc (.ldy m) s, cycles := cyclesOf (.ldy m) (operandCrossed m s) }

/-- STA, STX and STY in every form: one write of the register to the effective address, which is never read; no flag and no
register changes, and no page-cross penalty is taken: the cycles are those listed (R183 to R185). -/
def Obligations.StoresWriteTheEffectiveAddress : Prop :=
  (∀ (b : Byte) (w : Word), encodesAs [
      (Instr.sta (.zp b), [0x85, b], 3), (.sta (.zpX b), [0x95, b], 4), (.sta (.abs w), [0x8D, loByte w, hiByte w], 4),
      (.sta (.absX w), [0x9D, loByte w, hiByte w], 5), (.sta (.absY w), [0x99, loByte w, hiByte w], 5),
      (.sta (.indX b), [0x81, b], 6), (.sta (.indY b), [0x91, b], 6), (.stx (.zp b), [0x86, b], 3),
      (.stx (.zpY b), [0x96, b], 4), (.stx (.abs w), [0x8E, loByte w, hiByte w], 4), (.sty (.zp b), [0x84, b], 3),
      (.sty (.zpX b), [0x94, b], 4), (.sty (.abs w), [0x8C, loByte w, hiByte w], 4)]) ∧
  ∀ (m : AddrMode) (s : State),
    (writeAnswers (addressed m s).addr s.a s = true →
      ∃ s1, cpuWrite (addressed m s).addr s.a s = .ok () s1 ∧
        exec (.sta m) s = .next { s1 with pc := nextPc (.sta m) s, cycles := (rowOf (Instr.sta m).opcode).cycles }) ∧
    (writeAnswers (addressed m s).addr s.x s = true →
      ∃ s1, cpuWrite (addressed m s).addr s.x s = .ok () s1 ∧
        exec (.stx m) s = .next { s1 with pc := nextPc (.stx m) s, cycles := (rowOf (Instr.stx m).opcode).cycles }) ∧
    (writeAnswers (addressed m s).addr s.y s = true →
      ∃ s1, cpuWrite (addressed m s).addr s.y s = .ok () s1 ∧
        exec (.sty m) s = .next { s1 with pc := nextPc (.sty m) s, cycles := (rowOf (Instr.sty m).opcode).cycles })

/-- The memory frame of the stores, SAX among them. To internal RAM or save RAM: the byte at the effective address, and at its
mirrors, is the one stored, every other byte reads as before, and no state but that memory, the pc and the cycle count
changes. To ROM of the fixed-bank mapper, and to the PPU ports, OAM-DMA and the controller: every byte reads as before
(R61, R87, R183 to R185, R283). -/
def Obligations.StoresChangeOneByteOfMemory : Prop :=
  ∀ (m : AddrMode) (s t : State) (i : Instr) (d : Byte), s.memoriesWf = true →
    (i, d) ∈ [(Instr.sta m, s.a), (.stx m, s.x), (.sty m, s.y), (.sax m, s.a &&& s.x)] →
    haltsOn i.opcode s.params = false → i.wellFormed = true → exec i s = .next t →
    (storesByte (addressed m s).addr = true →
      (∀ b, sameCell (addressed m s).addr b = true → byteAt b t = some d) ∧
      (∀ b, sameCell (addressed m s).addr b = false → byteAt b t = byteAt b s) ∧
      t = { s with
        pc := nextPc i s, cycles := (rowOf i.opcode).cycles, ram := t.ram, cart := { s.cart with prgRam := t.cart.prgRam } }) ∧
    (storesByte (addressed m s).addr = false → (s.cart.kind = .fixed ∨ (addressed m s).addr.toNat ≤ 0x7FFF) →
      ∀ b, byteAt b t = byteAt b s)

/-- The transfers; TXS alone writes no flag (R186 to R191). -/
def Obligations.TransfersCopyRegisters : Prop :=
  ∀ (s : State) (rest : List Byte),
    (decode (0xAA :: rest) = .ok .tax ∧ decode (0xA8 :: rest) = .ok .tay ∧ decode (0x8A :: rest) = .ok .txa ∧
      decode (0x98 :: rest) = .ok .tya ∧ decode (0xBA :: rest) = .ok .tsx ∧ decode (0x9A :: rest) = .ok .txs) ∧
    (∃ p', zeroNegativeOf s.a s.p p' ∧
      exec .tax s = .next { s with x := s.a, p := p', pc := s.pc + 1, cycles := 2 } ∧
      exec .tay s = .next { s with y := s.a, p := p', pc := s.pc + 1, cycles := 2 }) ∧
    (∃ p', zeroNegativeOf s.x s.p p' ∧ exec .txa s = .next { s with a := s.x, p := p', pc := s.pc + 1, cycles := 2 }) ∧
    (∃ p', zeroNegativeOf s.y s.p p' ∧ exec .tya s = .next { s with a := s.y, p := p', pc := s.pc + 1, cycles := 2 }) ∧
    (∃ p', zeroNegativeOf s.sp s.p p' ∧ exec .tsx s = .next { s with x := s.sp, p := p', pc := s.pc + 1, cycles := 2 }) ∧
    exec .txs s = .next { s with sp := s.x, pc := s.pc + 1, cycles := 2 }

/-! ## Arithmetic, logic and compare -/

/-- ADC, SBC and the unofficial SBC 0xEB: the sum with the operand, or with its one's complement; D is not read
(R155, R156, R200, R201, R284). -/
def Obligations.AddAndSubtractWithCarry : Prop :=
  (∀ (b : Byte) (w : Word), encodesAs [
      (Instr.adc (.imm b), [0x69, b], 2), (.adc (.mem (.zp b)), [0x65, b], 3), (.adc (.mem (.zpX b)), [0x75, b], 4),
      (.adc (.mem (.abs w)), [0x6D, loByte w, hiByte w], 4), (.adc (.mem (.absX w)), [0x7D, loByte w, hiByte w], 4),
      (.adc (.mem (.absY w)), [0x79, loByte w, hiByte w], 4), (.adc (.mem (.indX b)), [0x61, b], 6),
      (.adc (.mem (.indY b)), [0x71, b], 5), (.sbc (.imm b), [0xE9, b], 2), (.sbc (.mem (.zp b)), [0xE5, b], 3),
      (.sbc (.mem (.zpX b)), [0xF5, b], 4), (.sbc (.mem (.abs w)), [0xED, loByte w, hiByte w], 4),
      (.sbc (.mem (.absX w)), [0xFD, loByte w, hiByte w], 4), (.sbc (.mem (.absY w)), [0xF9, loByte w, hiByte w], 4),
      (.sbc (.mem (.indX b)), [0xE1, b], 6), (.sbc (.mem (.indY b)), [0xF1, b], 5), (.sbcEB b, [0xEB, b], 2)]) ∧
  ∀ (m : ReadOperand) (b : Byte) (s : State),
    (operandAnswers m s = true →
      ∃ v s1 r p' q p'', operandRead m s = .ok v s1 ∧ addsTo s.a v s.p r p' ∧ addsTo s.a (v ^^^ 0xFF) s.p q p'' ∧
        exec (.adc m) s = .next { s1 with
          a := r, p := p', pc := nextPc (.adc m) s, cycles := cyclesOf (.adc m) (operandCrossed m s) } ∧
        exec (.sbc m) s = .next { s1 with
          a := q, p := p'', pc := nextPc (.sbc m) s, cycles := cyclesOf (.sbc m) (operandCrossed m s) }) ∧
    (s.params.unofficialSet.contains 0xEB = true →
      ∃ r p', addsTo s.a (b ^^^ 0xFF) s.p r p' ∧
        exec (.sbcEB b) s = .next { s with a := r, p := p', pc := s.pc + 2, cycles := 2 })

/-- SBC is subtraction with borrow, C = 1 meaning no borrow, and it undoes an ADC whose carry in was the complement of its own
(R156, R201; the identity of spec/95_test_vectors.md 1.1). -/
def Obligations.SubtractIsBorrowAndUndoesAdd : Prop :=
  ∀ (b : Byte) (s : State),
    (∃ t, exec (.sbc (.imm b)) s = .next t ∧
      t.a.toNat = (s.a.toNat + 255 - b.toNat + bit (getFlag .c s.p)) % 256 ∧
      getFlag .c t.p = decide (b.toNat + 1 ≤ s.a.toNat + bit (getFlag .c s.p)) ∧
      getFlag .v t.p = decide ((s.a ^^^ b) &&& (s.a ^^^ t.a) &&& 0x80 ≠ 0)) ∧
    (∃ t u, exec (.adc (.imm b)) s = .next t ∧
      exec (.sbc (.imm b)) { t with p := putFlag .c (!getFlag .c s.p) t.p } = .next u ∧ u.a = s.a)

/-- AND, ORA and EOR in every form (R202 to R204). -/
def Obligations.LogicWritesTheAccumulator : Prop :=
  (∀ (b : Byte) (w : Word), encodesAs [
      (Instr.and (.imm b), [0x29, b], 2), (.and (.mem (.zp b)), [0x25, b], 3), (.and (.mem (.zpX b)), [0x35, b], 4),
      (.and (.mem (.abs w)), [0x2D, loByte w, hiByte w], 4), (.and (.mem (.absX w)), [0x3D, loByte w, hiByte w], 4),
      (.and (.mem (.absY w)), [0x39, loByte w, hiByte w], 4), (.and (.mem (.indX b)), [0x21, b], 6),
      (.and (.mem (.indY b)), [0x31, b], 5), (.ora (.imm b), [0x09, b], 2), (.ora (.mem (.zp b)), [0x05, b], 3),
      (.ora (.mem (.zpX b)), [0x15, b], 4), (.ora (.mem (.abs w)), [0x0D, loByte w, hiByte w], 4),
      (.ora (.mem (.absX w)), [0x1D, loByte w, hiByte w], 4), (.ora (.mem (.absY w)), [0x19, loByte w, hiByte w], 4),
      (.ora (.mem (.indX b)), [0x01, b], 6), (.ora (.mem (.indY b)), [0x11, b], 5), (.eor (.imm b), [0x49, b], 2),
      (.eor (.mem (.zp b)), [0x45, b], 3), (.eor (.mem (.zpX b)), [0x55, b], 4),
      (.eor (.mem (.abs w)), [0x4D, loByte w, hiByte w], 4), (.eor (.mem (.absX w)), [0x5D, loByte w, hiByte w], 4),
      (.eor (.mem (.absY w)), [0x59, loByte w, hiByte w], 4), (.eor (.mem (.indX b)), [0x41, b], 6),
      (.eor (.mem (.indY b)), [0x51, b], 5)]) ∧
  ∀ (m : ReadOperand) (s : State), operandAnswers m s = true →
    ∃ v s1, operandRead m s = .ok v s1 ∧
      (∃ p', zeroNegativeOf (s.a &&& v) s.p p' ∧ exec (.and m) s = .next { s1 with
        a := s.a &&& v, p := p', pc := nextPc (.and m) s, cycles := cyclesOf (.and m) (operandCrossed m s) }) ∧
      (∃ p', zeroNegativeOf (s.a ||| v) s.p p' ∧ exec (.ora m) s = .next { s1 with
        a := s.a ||| v, p := p', pc := nextPc (.ora m) s, cycles := cyclesOf (.ora m) (operandCrossed m s) }) ∧
      (∃ p', zeroNegativeOf (s.a ^^^ v) s.p p' ∧ exec (.eor m) s = .next { s1 with
        a := s.a ^^^ v, p := p', pc := nextPc (.eor m) s, cycles := cyclesOf (.eor m) (operandCrossed m s) })

/-- CMP, CPX, CPY and BIT in every form: flags alone are written; the compares leave V (R157, R205 to R208). -/
def Obligations.CompareAndBitWriteFlagsOnly : Prop :=
  (∀ (b : Byte) (w : Word), encodesAs [
      (Instr.cmp (.imm b), [0xC9, b], 2), (.cmp (.mem (.zp b)), [0xC5, b], 3), (.cmp (.mem (.zpX b)), [0xD5, b], 4),
      (.cmp (.mem (.abs w)), [0xCD, loByte w, hiByte w], 4), (.cmp (.mem (.absX w)), [0xDD, loByte w, hiByte w], 4),
      (.cmp (.mem (.absY w)), [0xD9, loByte w, hiByte w], 4), (.cmp (.mem (.indX b)), [0xC1, b], 6),
      (.cmp (.mem (.indY b)), [0xD1, b], 5), (.cpx (.imm b), [0xE0, b], 2), (.cpx (.mem (.zp b)), [0xE4, b], 3),
      (.cpx (.mem (.abs w)), [0xEC, loByte w, hiByte w], 4), (.cpy (.imm b), [0xC0, b], 2),
      (.cpy (.mem (.zp b)), [0xC4, b], 3), (.cpy (.mem (.abs w)), [0xCC, loByte w, hiByte w], 4),
      (.bit (.zp b), [0x24, b], 3), (.bit (.abs w), [0x2C, loByte w, hiByte w], 4)]) ∧
  ∀ (m : ReadOperand) (s : State), operandAnswers m s = true →
    ∃ v s1, operandRead m s = .ok v s1 ∧
      (∃ p', comparesTo s.a v s.p p' ∧ exec (.cmp m) s = .next { s1 with
        p := p', pc := nextPc (.cmp m) s, cycles := cyclesOf (.cmp m) (operandCrossed m s) }) ∧
      (∃ p', comparesTo s.x v s.p p' ∧ exec (.cpx m) s = .next { s1 with
        p := p', pc := nextPc (.cpx m) s, cycles := cyclesOf (.cpx m) (operandCrossed m s) }) ∧
      (∃ p', comparesTo s.y v s.p p' ∧ exec (.cpy m) s = .next { s1 with
        p := p', pc := nextPc (.cpy m) s, cycles := cyclesOf (.cpy m) (operandCrossed m s) }) ∧
      (∀ k, m = .mem k → ∃ p', getFlag .z p' = decide (s.a &&& v = 0) ∧ getFlag .n p' = v.getLsbD 7 ∧
        getFlag .v p' = v.getLsbD 6 ∧ getFlag .c p' = getFlag .c s.p ∧ getFlag .i p' = getFlag .i s.p ∧
        getFlag .d p' = getFlag .d s.p ∧ p' &&& 0x30 = s.p &&& 0x30 ∧
        exec (.bit k) s = .next { s1 with
          p := p', pc := nextPc (.bit k) s, cycles := cyclesOf (.bit k) (operandCrossed m s) })

/-- INC and DEC: one read, then one write of the byte plus or minus one, and SetZN (R150, R209, R210). -/
def Obligations.IncrementAndDecrementMemory : Prop :=
  (∀ (b : Byte) (w : Word), encodesAs [
      (Instr.inc (.zp b), [0xE6, b], 5), (.inc (.zpX b), [0xF6, b], 6), (.inc (.abs w), [0xEE, loByte w, hiByte w], 6),
      (.inc (.absX w), [0xFE, loByte w, hiByte w], 7), (.dec (.zp b), [0xC6, b], 5), (.dec (.zpX b), [0xD6, b], 6),
      (.dec (.abs w), [0xCE, loByte w, hiByte w], 6), (.dec (.absX w), [0xDE, loByte w, hiByte w], 7)]) ∧
  ∀ (m : AddrMode) (s : State), readAnswers (addressed m s).addr s = true →
    ∃ v s1, cpuRead (addressed m s).addr s = .ok v s1 ∧
      (∃ r s2 p', r.toNat = (v.toNat + 1) % 256 ∧ cpuWrite (addressed m s).addr r s1 = .ok () s2 ∧
        zeroNegativeOf r s.p p' ∧
        exec (.inc m) s = .next { s2 with p := p', pc := nextPc (.inc m) s, cycles := (rowOf (Instr.inc m).opcode).cycles }) ∧
      (∃ r s2 p', r.toNat = (v.toNat + 255) % 256 ∧ cpuWrite (addressed m s).addr r s1 = .ok () s2 ∧
        zeroNegativeOf r s.p p' ∧
        exec (.dec m) s = .next { s2 with p := p', pc := nextPc (.dec m) s, cycles := (rowOf (Instr.dec m).opcode).cycles })

/-- INX, INY, DEX and DEY: they wrap, and C and V are not written (R211 to R214). -/
def Obligations.IncrementAndDecrementRegisters : Prop :=
  ∀ (s : State) (rest : List Byte),
    (decode (0xE8 :: rest) = .ok .inx ∧ decode (0xC8 :: rest) = .ok .iny ∧ decode (0xCA :: rest) = .ok .dex ∧
      decode (0x88 :: rest) = .ok .dey) ∧
    (∃ r p', r.toNat = (s.x.toNat + 1) % 256 ∧ zeroNegativeOf r s.p p' ∧
      exec .inx s = .next { s with x := r, p := p', pc := s.pc + 1, cycles := 2 }) ∧
    (∃ r p', r.toNat = (s.y.toNat + 1) % 256 ∧ zeroNegativeOf r s.p p' ∧
      exec .iny s = .next { s with y := r, p := p', pc := s.pc + 1, cycles := 2 }) ∧
    (∃ r p', r.toNat = (s.x.toNat + 255) % 256 ∧ zeroNegativeOf r s.p p' ∧
      exec .dex s = .next { s with x := r, p := p', pc := s.pc + 1, cycles := 2 }) ∧
    (∃ r p', r.toNat = (s.y.toNat + 255) % 256 ∧ zeroNegativeOf r s.p p' ∧
      exec .dey s = .next { s with y := r, p := p', pc := s.pc + 1, cycles := 2 })

/-! ## Shifts -/

/-- ASL, LSR, ROL and ROR, on A and in every memory form (R158, R230 to R233). -/
def Obligations.ShiftsAndRotates : Prop :=
  (∀ (b : Byte) (w : Word), encodesAs [
      (Instr.asl .acc, [0x0A], 2), (.asl (.mem (.zp b)), [0x06, b], 5), (.asl (.mem (.zpX b)), [0x16, b], 6),
      (.asl (.mem (.abs w)), [0x0E, loByte w, hiByte w], 6), (.asl (.mem (.absX w)), [0x1E, loByte w, hiByte w], 7),
      (.lsr .acc, [0x4A], 2), (.lsr (.mem (.zp b)), [0x46, b], 5), (.lsr (.mem (.zpX b)), [0x56, b], 6),
      (.lsr (.mem (.abs w)), [0x4E, loByte w, hiByte w], 6), (.lsr (.mem (.absX w)), [0x5E, loByte w, hiByte w], 7),
      (.rol .acc, [0x2A], 2), (.rol (.mem (.zp b)), [0x26, b], 5), (.rol (.mem (.zpX b)), [0x36, b], 6),
      (.rol (.mem (.abs w)), [0x2E, loByte w, hiByte w], 6), (.rol (.mem (.absX w)), [0x3E, loByte w, hiByte w], 7),
      (.ror .acc, [0x6A], 2), (.ror (.mem (.zp b)), [0x66, b], 5), (.ror (.mem (.zpX b)), [0x76, b], 6),
      (.ror (.mem (.abs w)), [0x6E, loByte w, hiByte w], 6), (.ror (.mem (.absX w)), [0x7E, loByte w, hiByte w], 7)]) ∧
  ∀ (k : ShiftKind) (mk : ShiftOperand → Instr) (m : AddrMode) (s : State),
    (k, mk) ∈ [(ShiftKind.asl, Instr.asl), (.lsr, Instr.lsr), (.rol, Instr.rol), (.ror, Instr.ror)] →
    (∃ r out p', shiftsTo k s.a (getFlag .c s.p) r out ∧ shiftFlags r out s.p p' ∧
      exec (mk .acc) s = .next { s with a := r, p := p', pc := s.pc + 1, cycles := 2 }) ∧
    (readAnswers (addressed m s).addr s = true →
      ∃ v s1 r out s2 p', cpuRead (addressed m s).addr s = .ok v s1 ∧ shiftsTo k v (getFlag .c s.p) r out ∧
        cpuWrite (addressed m s).addr r s1 = .ok () s2 ∧ shiftFlags r out s.p p' ∧
        exec (mk (.mem m)) s = .next { s2 with
          p := p', pc := nextPc (mk (.mem m)) s, cycles := (rowOf (mk (.mem m)).opcode).cycles })

/-- The memory frame of the read-modify-write instructions. On internal RAM and save RAM: the byte at the effective address, and at
its mirrors, is the one the rule computes from the byte that was there, every other byte reads as before, and no state but that
byte, A, P, the pc and the cycle count changes. On ROM of the fixed-bank mapper, and on the PPU ports, OAM-DMA, the controller
and the addresses of no region: every byte reads as before (R61, R87, R209, R210, R230 to R233, R285 to R290). -/
def Obligations.ModifiesChangeOneByteOfMemory : Prop :=
  ∀ (m : AddrMode) (s t : State) (i : Instr) (v : Byte), s.memoriesWf = true →
    i ∈ [Instr.inc m, .dec m, .asl (.mem m), .lsr (.mem m), .rol (.mem m), .ror (.mem m), .dcp m, .isb m, .slo m, .rla m, .sre m,
      .rra m] →
    haltsOn i.opcode s.params = false → i.wellFormed = true → exec i s = .next t →
    (storesByte (addressed m s).addr = true → byteAt (addressed m s).addr s = some v →
      (∃ r, (∀ b, sameCell (addressed m s).addr b = true → byteAt b t = some r) ∧
        (i ∈ [Instr.inc m, .isb m] → r.toNat = (v.toNat + 1) % 256) ∧
        (i ∈ [Instr.dec m, .dcp m] → r.toNat = (v.toNat + 255) % 256) ∧
        (i ∈ [Instr.asl (.mem m), .slo m] → ∃ out, shiftsTo .asl v (getFlag .c s.p) r out) ∧
        (i ∈ [Instr.lsr (.mem m), .sre m] → ∃ out, shiftsTo .lsr v (getFlag .c s.p) r out) ∧
        (i ∈ [Instr.rol (.mem m), .rla m] → ∃ out, shiftsTo .rol v (getFlag .c s.p) r out) ∧
        (i ∈ [Instr.ror (.mem m), .rra m] → ∃ out, shiftsTo .ror v (getFlag .c s.p) r out)) ∧
      (∀ b, sameCell (addressed m s).addr b = false → byteAt b t = byteAt b s) ∧
      t = { s with
        a := t.a, p := t.p, pc := nextPc i s, cycles := (rowOf i.opcode).cycles, ram := t.ram,
        cart := { s.cart with prgRam := t.cart.prgRam } } ∧
      (i ∈ [Instr.inc m, .dec m, .asl (.mem m), .lsr (.mem m), .rol (.mem m), .ror (.mem m), .dcp m] → t.a = s.a)) ∧
    (storesByte (addressed m s).addr = false → (s.cart.kind = .fixed ∨ (addressed m s).addr.toNat ≤ 0x7FFF) →
      ∀ b, byteAt b t = byteAt b s)

/-! ## Control transfer -/

/-- The eight conditional branches: taken to the displacement from the next instruction, 3 cycles and one more when the page
changes; or not taken, 2 cycles. No flag is written (R240 to R248). -/
def Obligations.ConditionalBranches : Prop :=
  ∀ (op : Byte) (mk : Byte → Instr) (f : Flag) (taken : Bool) (d : Byte) (s : State),
    (op, mk, f, taken) ∈ [((0x10 : Byte), Instr.bpl, Flag.n, false), (0x30, Instr.bmi, .n, true), (0x50, Instr.bvc, .v, false),
      (0x70, Instr.bvs, .v, true), (0x90, Instr.bcc, .c, false), (0xB0, Instr.bcs, .c, true), (0xD0, Instr.bne, .z, false),
      (0xF0, Instr.beq, .z, true)] →
    encode (mk d) = [op, d] ∧
    (getFlag f s.p = taken →
      exec (mk d) s = .next { s with
        pc := BitVec.ofInt 16 (s.pc.toNat + 2 + d.toInt)
        cycles := if (s.pc + 2).toNat / 256 = (BitVec.ofInt 16 (s.pc.toNat + 2 + d.toInt)).toNat / 256 then 3 else 4 }) ∧
    (getFlag f s.p ≠ taken → exec (mk d) s = .next { s with pc := s.pc + 2, cycles := 2 })

/-- JMP absolute and indirect; a pointer at the end of a page takes the high byte of the target from the start of that page
(R148, R249). -/
def Obligations.JumpsAndTheIndirectPageWrap : Prop :=
  ∀ (w : Word) (s : State),
    encode (.jmp (.abs w)) = [0x4C, loByte w, hiByte w] ∧ encode (.jmp (.ind w)) = [0x6C, loByte w, hiByte w] ∧
    exec (.jmp (.abs w)) s = .next { s with pc := w, cycles := 3 } ∧
    (readAnswers w s = true → readAnswers (BitVec.ofNat 16 (w.toNat / 256 * 256 + (w.toNat + 1) % 256)) s = true →
      ∃ lo hi s1 s2 target, cpuRead w s = .ok lo s1 ∧
        cpuRead (BitVec.ofNat 16 (w.toNat / 256 * 256 + (w.toNat + 1) % 256)) s1 = .ok hi s2 ∧
        target.toNat = lo.toNat + 256 * hi.toNat ∧ exec (.jmp (.ind w)) s = .next { s2 with pc := target, cycles := 5 })

/-- JSR pushes the address of its last byte, high byte first; RTS pulls a word and adds 1 (R250, R251). The stack wraps within
page 1. -/
def Obligations.SubroutineCallAndReturn : Prop :=
  ∀ (w : Word) (s : State),
    encode (.jsr w) = [0x20, loByte w, hiByte w] ∧ encode .rts = [0x60] ∧
    exec (.jsr w) s = .next { s with
      ram := (s.ram.write (0x100 + s.sp.toNat) (hiByte (s.pc + 2))).write (0x100 + (s.sp - 1).toNat) (loByte (s.pc + 2))
      sp := s.sp - 2
      pc := w
      cycles := 6 } ∧
    exec .rts s = .next { s with
      sp := s.sp + 2
      pc := mkWord (s.ram.read (0x100 + (s.sp + 1).toNat)) (s.ram.read (0x100 + (s.sp + 2).toNat)) + 1
      cycles := 6 }

/-- BRK takes its exception: the address past the padding byte and the status byte with bits 4 and 5 set are pushed, I becomes 1
and the pc is the word at 0xFFFE. RTI pulls the status, less bits 4 and 5, then the pc, and adds nothing
(R23, R252, R253, R408). The padding byte may be any; which one `encode` writes is log entry 12 and is not said here. -/
def Obligations.SoftwareInterruptAndReturn : Prop :=
  ∀ s : State,
    (∃ b, encode .brk = [0x00, b]) ∧ (∀ (b : Byte) (rest : List Byte), decode (0x00 :: b :: rest) = .ok .brk) ∧
    encode .rti = [0x40] ∧
    (∃ p', onlyFlag .i true s.p p' ∧ exec .brk s = .next { s with
      ram := ((s.ram.write (0x100 + s.sp.toNat) (hiByte (s.pc + 2))).write (0x100 + (s.sp - 1).toNat) (loByte (s.pc + 2))).write
        (0x100 + (s.sp - 2).toNat) (s.p ||| 0x30)
      sp := s.sp - 3
      p := p'
      pc := mkWord (s.cart.cpuRead 0xFFFE) (s.cart.cpuRead 0xFFFF)
      cycles := 7 }) ∧
    exec .rti s = .next { s with
      sp := s.sp + 3
      p := (s.ram.read (0x100 + (s.sp + 1).toNat) &&& 0xCF) ||| 0x20
      pc := mkWord (s.ram.read (0x100 + (s.sp + 2).toNat)) (s.ram.read (0x100 + (s.sp + 3).toNat))
      cycles := 6 }

/-- What has been pushed comes back: RTS after JSR, RTI after an interrupt service and after BRK, PLA after PHA and PLP after PHP
restore the pc, SP and the registers they concern, wherever SP stands (R250 to R253, R260 to R263, R402, R408). -/
def Obligations.PushedStateComesBack : Prop :=
  ∀ (w : Word) (k : Interrupt) (s : State), s.memoriesWf = true → s.statusWf = true →
    (∃ t u, exec (.jsr w) s = .next t ∧ exec .rts t = .next u ∧
      u.pc = s.pc + 3 ∧ u.sp = s.sp ∧ u.a = s.a ∧ u.x = s.x ∧ u.y = s.y ∧ u.p = s.p) ∧
    (∃ t u, serviceInterrupt k s = .ok () t ∧ exec .rti t = .next u ∧
      u.pc = s.pc ∧ u.sp = s.sp ∧ u.a = s.a ∧ u.x = s.x ∧ u.y = s.y ∧ u.p = s.p) ∧
    (∃ t u, exec .brk s = .next t ∧ exec .rti t = .next u ∧
      u.pc = s.pc + 2 ∧ u.sp = s.sp ∧ u.a = s.a ∧ u.x = s.x ∧ u.y = s.y ∧ u.p = s.p) ∧
    (∃ t u, exec .pha s = .next t ∧ exec .pla t = .next u ∧ u.a = s.a ∧ u.sp = s.sp) ∧
    (∃ t u, exec .php s = .next t ∧ exec .plp t = .next u ∧ u.p = s.p ∧ u.sp = s.sp)

/-! ## Stack, flags and no-operations -/

/-- PHA, PHP, PLA and PLP (R260 to R263). -/
def Obligations.StackInstructions : Prop :=
  ∀ s : State,
    encode .pha = [0x48] ∧ encode .php = [0x08] ∧ encode .pla = [0x68] ∧ encode .plp = [0x28] ∧
    exec .pha s = .next { s with
      ram := s.ram.write (0x100 + s.sp.toNat) s.a, sp := s.sp - 1, pc := s.pc + 1, cycles := 3 } ∧
    exec .php s = .next { s with
      ram := s.ram.write (0x100 + s.sp.toNat) (s.p ||| 0x30), sp := s.sp - 1, pc := s.pc + 1, cycles := 3 } ∧
    (∃ v p', v = s.ram.read (0x100 + (s.sp + 1).toNat) ∧ zeroNegativeOf v s.p p' ∧
      exec .pla s = .next { s with a := v, p := p', sp := s.sp + 1, pc := s.pc + 1, cycles := 4 }) ∧
    exec .plp s = .next { s with
      p := (s.ram.read (0x100 + (s.sp + 1).toNat) &&& 0xCF) ||| 0x20, sp := s.sp + 1, pc := s.pc + 1, cycles := 4 }

/-- The flag instructions write one flag, and NOP writes nothing but the pc (R264 to R271). -/
def Obligations.FlagInstructionsWriteOneFlag : Prop :=
  ∀ (op : Byte) (i : Instr) (f : Flag) (b : Bool) (s : State) (rest : List Byte),
    (op, i, f, b) ∈ [((0x18 : Byte), Instr.clc, Flag.c, false), (0x38, .sec, .c, true), (0x58, .cli, .i, false),
      (0x78, .sei, .i, true), (0xD8, .cld, .d, false), (0xF8, .sed, .d, true), (0xB8, .clv, .v, false)] →
    decode (op :: rest) = .ok i ∧
    (∃ p', onlyFlag f b s.p p' ∧ exec i s = .next { s with p := p', pc := s.pc + 1, cycles := 2 }) ∧
    decode (0xEA :: rest) = .ok .nop ∧ exec .nop s = .next { s with pc := s.pc + 1, cycles := 2 }

/-! ## Unofficial opcodes -/

/-- The unofficial NOPs, LAX and SAX, when UNOFFICIAL_SET holds them: a NOP with a memory operand reads it, side effects and all,
and discards it (R281 to R283). -/
def Obligations.UnofficialNopLaxAndSax : Prop :=
  (∀ (b : Byte) (w : Word), encodesAs [
      (Instr.lax (.zp b), [0xA7, b], 3), (.lax (.zpY b), [0xB7, b], 4), (.lax (.abs w), [0xAF, loByte w, hiByte w], 4),
      (.lax (.absY w), [0xBF, loByte w, hiByte w], 4), (.lax (.indX b), [0xA3, b], 6), (.lax (.indY b), [0xB3, b], 5),
      (.sax (.zp b), [0x87, b], 3), (.sax (.zpY b), [0x97, b], 4), (.sax (.abs w), [0x8F, loByte w, hiByte w], 4),
      (.sax (.indX b), [0x83, b], 6), (.nopUnofficial 0x1A .implied, [0x1A], 2), (.nopUnofficial 0x3A .implied, [0x3A], 2),
      (.nopUnofficial 0x5A .implied, [0x5A], 2), (.nopUnofficial 0x7A .implied, [0x7A], 2),
      (.nopUnofficial 0xDA .implied, [0xDA], 2), (.nopUnofficial 0xFA .implied, [0xFA], 2),
      (.nopUnofficial 0x80 (.imm b), [0x80, b], 2), (.nopUnofficial 0x82 (.imm b), [0x82, b], 2),
      (.nopUnofficial 0x89 (.imm b), [0x89, b], 2), (.nopUnofficial 0xC2 (.imm b), [0xC2, b], 2),
      (.nopUnofficial 0xE2 (.imm b), [0xE2, b], 2), (.nopUnofficial 0x04 (.mem (.zp b)), [0x04, b], 3),
      (.nopUnofficial 0x44 (.mem (.zp b)), [0x44, b], 3), (.nopUnofficial 0x64 (.mem (.zp b)), [0x64, b], 3),
      (.nopUnofficial 0x14 (.mem (.zpX b)), [0x14, b], 4), (.nopUnofficial 0x34 (.mem (.zpX b)), [0x34, b], 4),
      (.nopUnofficial 0x54 (.mem (.zpX b)), [0x54, b], 4), (.nopUnofficial 0x74 (.mem (.zpX b)), [0x74, b], 4),
      (.nopUnofficial 0xD4 (.mem (.zpX b)), [0xD4, b], 4), (.nopUnofficial 0xF4 (.mem (.zpX b)), [0xF4, b], 4),
      (.nopUnofficial 0x0C (.mem (.abs w)), [0x0C, loByte w, hiByte w], 4),
      (.nopUnofficial 0x1C (.mem (.absX w)), [0x1C, loByte w, hiByte w], 4),
      (.nopUnofficial 0x3C (.mem (.absX w)), [0x3C, loByte w, hiByte w], 4),
      (.nopUnofficial 0x5C (.mem (.absX w)), [0x5C, loByte w, hiByte w], 4),
      (.nopUnofficial 0x7C (.mem (.absX w)), [0x7C, loByte w, hiByte w], 4),
      (.nopUnofficial 0xDC (.mem (.absX w)), [0xDC, loByte w, hiByte w], 4),
      (.nopUnofficial 0xFC (.mem (.absX w)), [0xFC, loByte w, hiByte w], 4)]) ∧
  ∀ (op b : Byte) (m : AddrMode) (s : State),
    (nopImpliedOpcodes.contains op = true → s.params.unofficialSet.contains op = true →
      exec (.nopUnofficial op .implied) s = .next { s with pc := s.pc + 1, cycles := 2 }) ∧
    (nopImmediateOpcodes.contains op = true → s.params.unofficialSet.contains op = true →
      exec (.nopUnofficial op (.imm b)) s = .next { s with pc := s.pc + 2, cycles := 2 }) ∧
    ((Instr.nopUnofficial op (.mem m)).wellFormed = true → s.params.unofficialSet.contains op = true →
      readAnswers (addressed m s).addr s = true →
      ∃ v s1, cpuRead (addressed m s).addr s = .ok v s1 ∧
        exec (.nopUnofficial op (.mem m)) s = .next { s1 with
          pc := nextPc (.nopUnofficial op (.mem m)) s
          cycles := cyclesOf (.nopUnofficial op (.mem m)) (addressed m s).crossed }) ∧
    ((Instr.lax m).wellFormed = true → s.params.unofficialSet.contains (Instr.lax m).opcode = true →
      readAnswers (addressed m s).addr s = true →
      ∃ v s1 p', cpuRead (addressed m s).addr s = .ok v s1 ∧ zeroNegativeOf v s.p p' ∧
        exec (.lax m) s = .next { s1 with
          a := v, x := v, p := p', pc := nextPc (.lax m) s, cycles := cyclesOf (.lax m) (addressed m s).crossed }) ∧
    ((Instr.sax m).wellFormed = true → s.params.unofficialSet.contains (Instr.sax m).opcode = true →
      writeAnswers (addressed m s).addr (s.a &&& s.x) s = true →
      ∃ s1, cpuWrite (addressed m s).addr (s.a &&& s.x) s = .ok () s1 ∧
        exec (.sax m) s = .next { s1 with pc := nextPc (.sax m) s, cycles := (rowOf (Instr.sax m).opcode).cycles })

/-- DCP, ISB, SLO, RLA, SRE and RRA, when UNOFFICIAL_SET holds them: one read, one write of the changed byte, then the operation on
A with it; no page-cross penalty is taken (R285 to R290). -/
def Obligations.UnofficialReadModifyWrite : Prop :=
  (∀ (b : Byte) (w : Word), encodesAs [
      (Instr.dcp (.zp b), [0xC7, b], 5), (.dcp (.zpX b), [0xD7, b], 6), (.dcp (.abs w), [0xCF, loByte w, hiByte w], 6),
      (.dcp (.absX w), [0xDF, loByte w, hiByte w], 7), (.dcp (.absY w), [0xDB, loByte w, hiByte w], 7),
      (.dcp (.indX b), [0xC3, b], 8), (.dcp (.indY b), [0xD3, b], 8), (.isb (.zp b), [0xE7, b], 5),
      (.isb (.zpX b), [0xF7, b], 6), (.isb (.abs w), [0xEF, loByte w, hiByte w], 6),
      (.isb (.absX w), [0xFF, loByte w, hiByte w], 7), (.isb (.absY w), [0xFB, loByte w, hiByte w], 7),
      (.isb (.indX b), [0xE3, b], 8), (.isb (.indY b), [0xF3, b], 8), (.slo (.zp b), [0x07, b], 5),
      (.slo (.zpX b), [0x17, b], 6), (.slo (.abs w), [0x0F, loByte w, hiByte w], 6),
      (.slo (.absX w), [0x1F, loByte w, hiByte w], 7), (.slo (.absY w), [0x1B, loByte w, hiByte w], 7),
      (.slo (.indX b), [0x03, b], 8), (.slo (.indY b), [0x13, b], 8), (.rla (.zp b), [0x27, b], 5),
      (.rla (.zpX b), [0x37, b], 6), (.rla (.abs w), [0x2F, loByte w, hiByte w], 6),
      (.rla (.absX w), [0x3F, loByte w, hiByte w], 7), (.rla (.absY w), [0x3B, loByte w, hiByte w], 7),
      (.rla (.indX b), [0x23, b], 8), (.rla (.indY b), [0x33, b], 8), (.sre (.zp b), [0x47, b], 5),
      (.sre (.zpX b), [0x57, b], 6), (.sre (.abs w), [0x4F, loByte w, hiByte w], 6),
      (.sre (.absX w), [0x5F, loByte w, hiByte w], 7), (.sre (.absY w), [0x5B, loByte w, hiByte w], 7),
      (.sre (.indX b), [0x43, b], 8), (.sre (.indY b), [0x53, b], 8), (.rra (.zp b), [0x67, b], 5),
      (.rra (.zpX b), [0x77, b], 6), (.rra (.abs w), [0x6F, loByte w, hiByte w], 6),
      (.rra (.absX w), [0x7F, loByte w, hiByte w], 7), (.rra (.absY w), [0x7B, loByte w, hiByte w], 7),
      (.rra (.indX b), [0x63, b], 8), (.rra (.indY b), [0x73, b], 8)]) ∧
  ∀ (m : AddrMode) (s : State), readAnswers (addressed m s).addr s = true →
    ∃ v s1, cpuRead (addressed m s).addr s = .ok v s1 ∧
    (s.params.unofficialSet.contains (Instr.dcp m).opcode = true →
      ∃ r s2 p', r.toNat = (v.toNat + 255) % 256 ∧ cpuWrite (addressed m s).addr r s1 = .ok () s2 ∧ comparesTo s.a r s.p p' ∧
        exec (.dcp m) s = .next { s2 with p := p', pc := nextPc (.dcp m) s, cycles := (rowOf (Instr.dcp m).opcode).cycles }) ∧
    (s.params.unofficialSet.contains (Instr.isb m).opcode = true →
      ∃ r s2 q p', r.toNat = (v.toNat + 1) % 256 ∧ cpuWrite (addressed m s).addr r s1 = .ok () s2 ∧
        addsTo s.a (r ^^^ 0xFF) s.p q p' ∧
        exec (.isb m) s = .next { s2 with
          a := q, p := p', pc := nextPc (.isb m) s, cycles := (rowOf (Instr.isb m).opcode).cycles }) ∧
    (s.params.unofficialSet.contains (Instr.slo m).opcode = true →
      ∃ r out s2 p', shiftsTo .asl v (getFlag .c s.p) r out ∧ cpuWrite (addressed m s).addr r s1 = .ok () s2 ∧
        shiftFlags (s.a ||| r) out s.p p' ∧
        exec (.slo m) s = .next { s2 with
          a := s.a ||| r, p := p', pc := nextPc (.slo m) s, cycles := (rowOf (Instr.slo m).opcode).cycles }) ∧
    (s.params.unofficialSet.contains (Instr.rla m).opcode = true →
      ∃ r out s2 p', shiftsTo .rol v (getFlag .c s.p) r out ∧ cpuWrite (addressed m s).addr r s1 = .ok () s2 ∧
        shiftFlags (s.a &&& r) out s.p p' ∧
        exec (.rla m) s = .next { s2 with
          a := s.a &&& r, p := p', pc := nextPc (.rla m) s, cycles := (rowOf (Instr.rla m).opcode).cycles }) ∧
    (s.params.unofficialSet.contains (Instr.sre m).opcode = true →
      ∃ r out s2 p', shiftsTo .lsr v (getFlag .c s.p) r out ∧ cpuWrite (addressed m s).addr r s1 = .ok () s2 ∧
        shiftFlags (s.a ^^^ r) out s.p p' ∧
        exec (.sre m) s = .next { s2 with
          a := s.a ^^^ r, p := p', pc := nextPc (.sre m) s, cycles := (rowOf (Instr.sre m).opcode).cycles }) ∧
    (s.params.unofficialSet.contains (Instr.rra m).opcode = true →
      ∃ r out s2 q p', shiftsTo .ror v (getFlag .c s.p) r out ∧ cpuWrite (addressed m s).addr r s1 = .ok () s2 ∧
        addsTo s.a r (putFlag .c out s.p) q p' ∧
        exec (.rra m) s = .next { s2 with
          a := q, p := p', pc := nextPc (.rra m) s, cycles := (rowOf (Instr.rra m).opcode).cycles })

/-! ## The bus router and the mappers -/

/-- Reads of RAM, save RAM and ROM give the byte there and change nothing; of the PPU ports only status and data change the PPU,
and the OAM data port changes nothing; whatever is read, nothing changes but the fault log, the draw counter, the controller's
index and, of the PPU, v, the read buffer, vblank and w. So the instructions of the read class leave every byte of memory as
it was (R60, R61, R67, R150). -/
def Obligations.ReadsAndTheirSideEffects : Prop :=
  ∀ (a : Word) (s : State),
    (a.toNat ≤ 0x1FFF → cpuRead a s = .ok (s.ram.read (a.toNat % 0x800)) s) ∧
    (0x6000 ≤ a.toNat → cpuRead a s = .ok (s.cart.cpuRead a) s) ∧
    (0x2000 ≤ a.toNat → a.toNat ≤ 0x3FFF →
      (a.toNat % 8 = 4 → cpuRead a s = .ok (s.ppu.oam.read s.ppu.oamAddr.toNat) s) ∧
      (a.toNat % 8 ≠ 2 → a.toNat % 8 ≠ 4 → a.toNat % 8 ≠ 7 →
        ∃ v, cpuRead a s = .ok v { s with draws := s.draws + 1 })) ∧
    (∀ v, byteAt a s = some v → cpuRead a s = .ok v s) ∧
    (∀ (v : Byte) (t : State), cpuRead a s = .ok v t → t = { s with
      faults := t.faults, draws := t.draws, index := t.index
      ppu := { s.ppu with v := t.ppu.v, readBuffer := t.ppu.readBuffer, vblank := t.ppu.vblank, w := t.ppu.w } }) ∧
    (∀ (i : Instr) (m : ReadOperand) (k : AddrMode) (op b : Byte) (n : NopOperand) (t : State),
      i ∈ [Instr.lda m, .ldx m, .ldy m, .adc m, .sbc m, .and m, .ora m, .eor m, .cmp m, .cpx m, .cpy m, .bit k, .lax k, .sbcEB b,
        .nopUnofficial op n] →
      exec i s = .next t →
      (∀ c, byteAt c t = byteAt c s) ∧ t.ntRam = s.ntRam ∧ t.palRam = s.palRam ∧ t.ppu.oam = s.ppu.oam ∧ t.cart = s.cart)

/-- An access to an address in no region is recorded; then a read returns a value that is not fixed and a write has no effect, or
the step ends there and no agent steps again, as the policy says (R66). -/
def Obligations.IllegalAccessIsRecorded : Prop :=
  ∀ (a : Word) (d : Byte) (s : State), 0x4000 ≤ a.toNat → a.toNat ≤ 0x5FFF → a ≠ 0x4016 →
    (s.params.busFaultPolicy = .recordAndContinue →
      (∃ v, cpuRead a s = .ok v { s with faults := s.faults ++ [.busFault a .read], draws := s.draws + 1 }) ∧
      (a ≠ 0x4014 → cpuWrite a d s = .ok () { s with faults := s.faults ++ [.busFault a .write] })) ∧
    (s.params.busFaultPolicy = .halt →
      cpuRead a s = .stop { s with faults := s.faults ++ [.busFault a .read] } ∧
      (a ≠ 0x4014 → cpuWrite a d s = .stop { s with faults := s.faults ++ [.busFault a .write] }) ∧
      ∀ (t : State) (k : AccessKind), t.params = s.params → .busFault a k ∈ t.faults → stopReason t ≠ none)

/-- Pushing 257 bytes wraps SP once: the last one overwrites the first one's slot, the others stand, and no byte outside page 1
is written (R22, R73; spec/95_test_vectors.md 1.2). -/
def Obligations.StackWrapsWithinItsPage : Prop :=
  ∀ (s : State) (bs : List Byte), s.memoriesWf = true → bs.length = 257 →
    ∃ t, t = bs.foldl (fun u b => (push b u).state) s ∧ t.sp = s.sp - 1 ∧
      (∀ k, 1 ≤ k → k ≤ 256 → some (t.ram.read (0x100 + (s.sp - BitVec.ofNat 8 k).toNat)) = bs[k]?) ∧
      (∀ b, b < 0x100 ∨ 0x200 ≤ b → t.ram.read b = s.ram.read b) ∧ t = { s with ram := t.ram, sp := t.sp }

/-- The PPU bus: what a read gives and what a write leaves in the pattern tables, in the nametables under each mirroring with
their alias, and in the palette with its mirrors; a byte written is read back (R80, R81, R82). -/
def Obligations.PpuBusMirroring : Prop :=
  ∀ (a : Word) (d : Byte) (s : State), s.memoriesWf = true →
    (∀ n, s.cart.mirroringTable n = (match s.cart.mirror with
      | .horizontal => n / 0x800 % 2 | .vertical => n / 0x400 % 2 | .single0 => 0 | .single1 => 1)) ∧
    (a.toNat % 0x4000 ≤ 0x1FFF → ppuRead a s = s.cart.ppuRead (a.toNat % 0x4000) ∧ ppuWrite a d s = s) ∧
    (0x2000 ≤ a.toNat % 0x4000 → a.toNat % 0x4000 ≤ 0x3EFF →
      ppuRead a s = s.ntRam.read (s.cart.mirroringTable a.toNat * 0x400 + a.toNat % 0x400) ∧
      ppuWrite a d s =
        { s with ntRam := s.ntRam.write (s.cart.mirroringTable a.toNat * 0x400 + a.toNat % 0x400) d }) ∧
    (0x3000 ≤ a.toNat % 0x4000 → a.toNat % 0x4000 ≤ 0x3EFF →
      ppuRead a s = ppuRead (a - 0x1000) s ∧ ppuWrite a d s = ppuWrite (a - 0x1000) d s) ∧
    (0x3F00 ≤ a.toNat % 0x4000 →
      (a.toNat % 16 = 0 ∨ a.toNat % 16 = 4 ∨ a.toNat % 16 = 8 ∨ a.toNat % 16 = 12 →
        ppuRead a s = s.palRam.read (a.toNat % 16) ∧
        ppuWrite a d s = { s with palRam := s.palRam.write (a.toNat % 16) d }) ∧
      (a.toNat % 4 ≠ 0 → ppuRead a s = s.palRam.read (a.toNat % 32) ∧
        ppuWrite a d s = { s with palRam := s.palRam.write (a.toNat % 32) d })) ∧
    (0x2000 ≤ a.toNat % 0x4000 → ppuRead a (ppuWrite a d s) = d)

/-- Mapper 1's serial port, reached by every CPU write to 0x8000 and above: a write with bit 7 resets the shift register and sets PRG mode 3; another shifts its bit 0 in at the
top, and when the marker bit was at the bottom the five bits go to the register that the address selects and the shift
register is reset. Five writes from the reset value so put their bits, first write lowest, into the register that the fifth
address selects, and change nothing else (R91, R92). -/
def Obligations.SerialPortSequence : Prop :=
  ∀ (c : Cart) (a1 a2 a3 a4 a5 : Word) (d1 d2 d3 d4 d5 : Byte), c.kind = .shiftBanked →
    0x8000 ≤ a1.toNat → 0x8000 ≤ a2.toNat → 0x8000 ≤ a3.toNat → 0x8000 ≤ a4.toNat → 0x8000 ≤ a5.toNat →
    (∀ s : State, s.cart = c → cpuWrite a1 d1 s = .ok () { s with cart := c.cpuWrite a1 d1 }) ∧
    (d1.getLsbD 7 = true → c.cpuWrite a1 d1 = { c with shift := 0b10000, control := c.control ||| 0x0C }) ∧
    (d1.getLsbD 7 = false → ∃ v : BitVec 5,
      (∀ k, k < 5 → v.getLsbD k = if k = 4 then d1.getLsbD 0 else c.shift.getLsbD (k + 1)) ∧
      c.cpuWrite a1 d1 =
        (if c.shift.getLsbD 0 = false then { c with shift := v }
        else { dispatched c a1 v with shift := 0b10000 })) ∧
    (c.shift = 0b10000 → d1.getLsbD 7 = false → d2.getLsbD 7 = false → d3.getLsbD 7 = false → d4.getLsbD 7 = false →
      d5.getLsbD 7 = false →
      ∃ v : BitVec 5, v.getLsbD 0 = d1.getLsbD 0 ∧ v.getLsbD 1 = d2.getLsbD 0 ∧ v.getLsbD 2 = d3.getLsbD 0 ∧
        v.getLsbD 3 = d4.getLsbD 0 ∧ v.getLsbD 4 = d5.getLsbD 0 ∧
        ((((c.cpuWrite a1 d1).cpuWrite a2 d2).cpuWrite a3 d3).cpuWrite a4 d4).cpuWrite a5 d5 = dispatched c a5 v)

/-- Where cartridge addresses lead: save RAM, the PRG and CHR banks of both mappers, that ROM of the fixed-bank mapper ignores CPU
writes, and CHR of either mapper PPU writes (R86 to R88, R90, R93 to R95). -/
def Obligations.CartridgeBanks : Prop :=
  ∀ (c : Cart) (a : Word) (d : Byte) (n : Nat), n ≤ 0x1FFF →
    c.ppuWrite n d = c ∧
    (0x6000 ≤ a.toNat → a.toNat ≤ 0x7FFF →
      c.cpuRead a = c.prgRam.read (a.toNat - 0x6000) ∧
      c.cpuWrite a d = { c with prgRam := c.prgRam.write (a.toNat - 0x6000) d }) ∧
    (c.kind = .fixed →
      (0x8000 ≤ a.toNat → c.cpuRead a = c.prg.read ((a.toNat - 0x8000) % (16384 * c.nPrg)) ∧ c.cpuWrite a d = c) ∧
      c.ppuRead n = c.chr.read (n % (8192 * c.nChr))) ∧
    (c.kind = .shiftBanked →
      (0x8000 ≤ a.toNat → a.toNat ≤ 0xBFFF →
        c.cpuRead a = c.prg.read (((if c.control.toNat / 4 % 4 ≤ 1 then c.prgReg.toNat % 16 / 2 * 2
          else if c.control.toNat / 4 % 4 = 2 then 0 else c.prgReg.toNat % 16) % c.nPrg) * 0x4000 + a.toNat % 0x4000)) ∧
      (0xC000 ≤ a.toNat →
        c.cpuRead a = c.prg.read (((if c.control.toNat / 4 % 4 ≤ 1 then c.prgReg.toNat % 16 / 2 * 2 + 1
          else if c.control.toNat / 4 % 4 = 2 then c.prgReg.toNat % 16 else c.nPrg - 1) % c.nPrg) * 0x4000 + a.toNat % 0x4000)) ∧
      (n ≤ 0x0FFF → c.ppuRead n = c.chr.read ((c.chr0.toNat % (2 * c.nChr)) * 0x1000 + n % 0x1000)) ∧
      (0x1000 ≤ n → c.ppuRead n = c.chr.read (((if c.control.toNat / 16 = 0 then c.chr0.toNat + 1 else c.chr1.toNat) %
        (2 * c.nChr)) * 0x1000 + n % 0x1000)))

/-! ## The PPU's ports -/

/-- CPU writes to the PPU ports other than the data port, through every mirror of them, bit by bit of t and v
(R62, R302, R305, R306, R308, R309). -/
def Obligations.PpuPortWrites : Prop :=
  ∀ (a : Word) (d : Byte) (s : State), 0x2000 ≤ a.toNat → a.toNat ≤ 0x3FFF →
    (a.toNat % 8 = 0 → ∃ t : BitVec 15,
      (∀ k, k < 15 → t.getLsbD k = if k = 10 then d.getLsbD 0 else if k = 11 then d.getLsbD 1 else s.ppu.t.getLsbD k) ∧
      cpuWrite a d s = .ok () { s with ppu := { s.ppu with ctrl := d, t := t } }) ∧
    (a.toNat % 8 = 1 → cpuWrite a d s = .ok () { s with ppu := { s.ppu with mask := d } }) ∧
    (a.toNat % 8 = 2 → cpuWrite a d s = .ok () s) ∧
    (a.toNat % 8 = 3 → cpuWrite a d s = .ok () { s with ppu := { s.ppu with oamAddr := d } }) ∧
    (a.toNat % 8 = 4 → cpuWrite a d s = .ok () { s with
      ppu := { s.ppu with oam := s.ppu.oam.write s.ppu.oamAddr.toNat d, oamAddr := s.ppu.oamAddr + 1 } }) ∧
    (a.toNat % 8 = 5 → s.ppu.w = false → ∃ (t : BitVec 15) (x : BitVec 3),
      (∀ k, k < 15 → t.getLsbD k = if k < 5 then d.getLsbD (k + 3) else s.ppu.t.getLsbD k) ∧ x.toNat = d.toNat % 8 ∧
      cpuWrite a d s = .ok () { s with ppu := { s.ppu with t := t, x := x, w := true } }) ∧
    (a.toNat % 8 = 5 → s.ppu.w = true → ∃ t : BitVec 15,
      (∀ k, k < 15 → t.getLsbD k = if 12 ≤ k then d.getLsbD (k - 12)
        else if 5 ≤ k ∧ k ≤ 9 then d.getLsbD (k - 2) else s.ppu.t.getLsbD k) ∧
      cpuWrite a d s = .ok () { s with ppu := { s.ppu with t := t, w := false } }) ∧
    (a.toNat % 8 = 6 → s.ppu.w = false → ∃ t : BitVec 15,
      (∀ k, k < 15 → t.getLsbD k = if k = 14 then false else if 8 ≤ k then d.getLsbD (k - 8) else s.ppu.t.getLsbD k) ∧
      cpuWrite a d s = .ok () { s with ppu := { s.ppu with t := t, w := true } }) ∧
    (a.toNat % 8 = 6 → s.ppu.w = true → ∃ t : BitVec 15,
      (∀ k, k < 15 → t.getLsbD k = if k < 8 then d.getLsbD k else s.ppu.t.getLsbD k) ∧
      cpuWrite a d s = .ok () { s with ppu := { s.ppu with t := t, v := t, w := false } })

/-- The status read, and the data port both ways, through every mirror of them (R304, R307). The low five bits of the status are
left open. -/
def Obligations.StatusAndDataPorts : Prop :=
  ∀ (a : Word) (d : Byte) (s : State), 0x2000 ≤ a.toNat → a.toNat ≤ 0x3FFF →
    (a.toNat % 8 = 2 → ∃ r : Byte, r.getLsbD 7 = s.ppu.vblank ∧ r.getLsbD 6 = s.ppu.sprite0Hit ∧
      r.getLsbD 5 = s.ppu.spriteOverflow ∧
      cpuRead a s = .ok r { s with ppu := { s.ppu with vblank := false, w := false }, draws := s.draws + 1 }) ∧
    (a.toNat % 8 = 7 → ∃ (v : BitVec 15) (n : Word),
      v.toNat = (s.ppu.v.toNat + (if s.ppu.ctrl.getLsbD 2 then 32 else 1)) % 0x8000 ∧ n.toNat = s.ppu.v.toNat % 0x4000 ∧
      (n.toNat < 0x3F00 →
        cpuRead a s = .ok s.ppu.readBuffer { s with ppu := { s.ppu with v := v, readBuffer := ppuRead n s } }) ∧
      (0x3F00 ≤ n.toNat →
        cpuRead a s = .ok (ppuRead n s) { s with ppu := { s.ppu with v := v, readBuffer := ppuRead (n - 0x1000) s } }) ∧
      cpuWrite a d s = .ok () { ppuWrite n d s with ppu := { s.ppu with v := v } })

/-- OAM-DMA. From a page whose reads go on, the 256 bytes are read in order through the bus router, each read in the state the one
before left, and each byte goes into OAM before the next read, from oamAddr on, wrapping; oamAddr stays. From a page of no region
under the halt policy the first read ends the transfer. From RAM, save RAM or ROM, OAM is the page and nothing else changes
(R63, R320). -/
def Obligations.OamDmaCopiesThePage : Prop :=
  ∀ (d : Byte) (s : State),
    ((d.toNat ≤ 0x3F ∨ 0x60 ≤ d.toNat ∨ s.params.busFaultPolicy = .recordAndContinue) →
      ∃ st : Nat → State, st 0 = s ∧
        (∀ k, k < 256 → ∃ (b : Byte) (u : State), cpuRead (BitVec.ofNat 16 (256 * d.toNat + k)) (st k) = .ok b u ∧
          st (k + 1) = { u with ppu := { u.ppu with oam := u.ppu.oam.write ((s.ppu.oamAddr.toNat + k) % 256) b } }) ∧
        cpuWrite 0x4014 d s = .ok () (st 256) ∧ (st 256).ppu.oamAddr = s.ppu.oamAddr) ∧
    (0x40 ≤ d.toNat → d.toNat ≤ 0x5F → s.params.busFaultPolicy = .halt →
      cpuWrite 0x4014 d s = .stop { s with faults := s.faults ++ [.busFault (BitVec.ofNat 16 (256 * d.toNat)) .read] }) ∧
    (s.memoriesWf = true → (d.toNat ≤ 0x1F ∨ 0x60 ≤ d.toNat) →
      ∃ oam : Memory, cpuWrite 0x4014 d s = .ok () { s with ppu := { s.ppu with oam := oam } } ∧
        ∀ k, k < 256 → some (oam.read ((s.ppu.oamAddr.toNat + k) % 256)) = byteAt (BitVec.ofNat 16 (256 * d.toNat + k)) s)

/-- The controller port: a read gives the bit of the button byte that the index selects, bits 7 to 1 clear, and moves the index; a
write sets the strobe (R330). The button byte is a free value, named by the number of draws taken (log entry 3). -/
def Obligations.ControllerPort : Prop :=
  ∀ (d : Byte) (s : State),
    (∃ r : Byte, r.toNat = bit ((Config.buttons s.draws).getLsbD s.index.toNat) ∧
      cpuRead 0x4016 s = .ok r { s with index := if s.strobe = 1 then 0 else s.index + 1, draws := s.draws + 1 }) ∧
    (∃ strobe : BitVec 1, strobe.toNat = d.toNat % 2 ∧
      cpuWrite 0x4016 d s = .ok () { s with strobe := strobe, index := if d.toNat % 2 = 1 then 0 else s.index })

/-! ## The PPU -/

/-- The counters pass through the 89342 positions of a frame in order, and the frames are swapped at each wrap, after any number of
ticks (R38, R310). -/
def Obligations.FramesOf89342Ticks : Prop :=
  ∀ (n : Nat) (s : State), s.countersWf = true →
    (ppuTicks n s).countersWf = true ∧
    (ppuTicks n s).ppu.scanline * 341 + (ppuTicks n s).ppu.cycle = (s.ppu.scanline * 341 + s.ppu.cycle + n) % 89342 ∧
    (ppuTicks n s).ppu.front.toNat = (s.ppu.front.toNat + (s.ppu.scanline * 341 + s.ppu.cycle + n) / 89342) % 2

/-- Vblank starts at (241, 1), with an NMI when control bit 7 is set, whatever the cell held; it and the sprite flags end at
(261, 1); no other tick changes vblank or the cell, or clears a sprite flag (R311, R312). -/
def Obligations.VblankAndNmi : Prop :=
  ∀ s : State,
    (s.ppu.scanline = 241 ∧ s.ppu.cycle = 1 → (ppuTick s).ppu.vblank = true ∧
      (ppuTick s).pending = if s.ppu.ctrl.getLsbD 7 then some .nmi else s.pending) ∧
    (s.ppu.scanline = 261 ∧ s.ppu.cycle = 1 → (ppuTick s).ppu.vblank = false ∧ (ppuTick s).ppu.sprite0Hit = false ∧
      (ppuTick s).ppu.spriteOverflow = false) ∧
    (¬(s.ppu.scanline = 241 ∧ s.ppu.cycle = 1) → (ppuTick s).pending = s.pending) ∧
    (¬(s.ppu.scanline = 241 ∧ s.ppu.cycle = 1) → ¬(s.ppu.scanline = 261 ∧ s.ppu.cycle = 1) →
      (ppuTick s).ppu.vblank = s.ppu.vblank) ∧
    (¬(s.ppu.scanline = 261 ∧ s.ppu.cycle = 1) →
      (s.ppu.sprite0Hit = true → (ppuTick s).ppu.sprite0Hit = true) ∧
      (s.ppu.spriteOverflow = true → (ppuTick s).ppu.spriteOverflow = true))

/-- Any number of PPU ticks writes nothing but the PPU's own state and the pending cell, and of the PPU neither the ports'
registers nor OAM (R300, R421). -/
def Obligations.PpuTicksLeaveTheRestAlone : Prop :=
  ∀ (n : Nat) (s : State), ∃ t, t = ppuTicks n s ∧ t = { s with ppu := t.ppu, pending := t.pending } ∧
    t.ppu.ctrl = s.ppu.ctrl ∧ t.ppu.mask = s.ppu.mask ∧ t.ppu.oamAddr = s.ppu.oamAddr ∧ t.ppu.oam = s.ppu.oam ∧
    t.ppu.t = s.ppu.t ∧ t.ppu.x = s.ppu.x ∧ t.ppu.w = s.ppu.w ∧ t.ppu.readBuffer = s.ppu.readBuffer

/-- No instruction moves the PPU's counters, draws a pixel, touches its fetch latches or its sprite line, sets a status flag or
writes the pending cell, whatever it stores where; nor does it change the ROM, the launch parameters or the host's moves
(R302, R403, R421). -/
def Obligations.InstructionsLeaveThePpuPipelineAlone : Prop :=
  ∀ (i : Instr) (s t : State), exec i s = .next t →
    t.pending = s.pending ∧ t.ppu.cycle = s.ppu.cycle ∧ t.ppu.scanline = s.ppu.scanline ∧ t.ppu.front = s.ppu.front ∧
    t.ppu.frame0 = s.ppu.frame0 ∧ t.ppu.frame1 = s.ppu.frame1 ∧ t.ppu.spriteLine = s.ppu.spriteLine ∧
    t.ppu.ntByte = s.ppu.ntByte ∧ t.ppu.atBits = s.ppu.atBits ∧ t.ppu.patLo = s.ppu.patLo ∧ t.ppu.patHi = s.ppu.patHi ∧
    t.ppu.tileData = s.ppu.tileData ∧ t.ppu.sprite0Hit = s.ppu.sprite0Hit ∧ t.ppu.spriteOverflow = s.ppu.spriteOverflow ∧
    (t.ppu.vblank = true → s.ppu.vblank = true) ∧
    t.cart = { s.cart with
      prgRam := t.cart.prgRam, mirror := t.cart.mirror, shift := t.cart.shift, control := t.cart.control, chr0 := t.cart.chr0,
      chr1 := t.cart.chr1, prgReg := t.cart.prgReg } ∧
    t.loadDiag = s.loadDiag ∧ t.params = s.params ∧ t.host = s.host ∧ t.quit = s.quit

/-- The scroll updates, field by field: on a render line with rendering enabled v moves one tile right at each eighth fetch cycle,
one line down at cycle 256, takes the horizontal fields of t at 257, and on the pre-render line its vertical fields at 280 to
304; at no other cycle, and with rendering disabled never, does v change (R350, R356 to R359, R375). -/
def Obligations.ScrollUpdates : Prop :=
  ∀ s : State,
    ((s.ppu.mask.getLsbD 3 || s.ppu.mask.getLsbD 4) = false → (ppuTick s).ppu.v = s.ppu.v) ∧
    ((s.ppu.mask.getLsbD 3 || s.ppu.mask.getLsbD 4) = true → (s.ppu.scanline ≤ 239 ∨ s.ppu.scanline = 261) →
      (s.ppu.cycle = 257 →
        ∀ k, (ppuTick s).ppu.v.getLsbD k = if k < 5 ∨ k = 10 then s.ppu.t.getLsbD k else s.ppu.v.getLsbD k) ∧
      (s.ppu.scanline = 261 → 280 ≤ s.ppu.cycle → s.ppu.cycle ≤ 304 →
        ∀ k, (ppuTick s).ppu.v.getLsbD k = if k < 5 ∨ k = 10 then s.ppu.v.getLsbD k else s.ppu.t.getLsbD k) ∧
      ((1 ≤ s.ppu.cycle ∧ s.ppu.cycle ≤ 256 ∨ 321 ≤ s.ppu.cycle ∧ s.ppu.cycle ≤ 336) → s.ppu.cycle % 8 = 0 →
        (ppuTick s).ppu.v.toNat % 32 = (s.ppu.v.toNat + 1) % 32 ∧
        (ppuTick s).ppu.v.toNat / 1024 % 2 = (s.ppu.v.toNat / 1024 + (s.ppu.v.toNat % 32 + 1) / 32) % 2 ∧
        (s.ppu.cycle ≠ 256 → ∀ k, 5 ≤ k → k ≠ 10 → (ppuTick s).ppu.v.getLsbD k = s.ppu.v.getLsbD k) ∧
        (s.ppu.cycle = 256 →
          (ppuTick s).ppu.v.toNat / 4096 = (s.ppu.v.toNat / 4096 + 1) % 8 ∧
          (s.ppu.v.toNat / 4096 ≠ 7 → (ppuTick s).ppu.v.toNat / 32 % 32 = s.ppu.v.toNat / 32 % 32 ∧
            (ppuTick s).ppu.v.toNat / 2048 % 2 = s.ppu.v.toNat / 2048 % 2) ∧
          (s.ppu.v.toNat / 4096 = 7 →
            (ppuTick s).ppu.v.toNat / 32 % 32 =
              (if s.ppu.v.toNat / 32 % 32 = 29 ∨ s.ppu.v.toNat / 32 % 32 = 31 then 0 else s.ppu.v.toNat / 32 % 32 + 1) ∧
            (ppuTick s).ppu.v.toNat / 2048 % 2 =
              (if s.ppu.v.toNat / 32 % 32 = 29 then 1 - s.ppu.v.toNat / 2048 % 2 else s.ppu.v.toNat / 2048 % 2)))) ∧
      (s.ppu.cycle = 0 ∨ (s.ppu.cycle ≤ 256 ∧ s.ppu.cycle % 8 ≠ 0) ∨ (258 ≤ s.ppu.cycle ∧ s.ppu.cycle ≤ 279) ∨
          (280 ≤ s.ppu.cycle ∧ s.ppu.cycle ≤ 304 ∧ s.ppu.scanline ≠ 261) ∨ (305 ≤ s.ppu.cycle ∧ s.ppu.cycle ≤ 320) ∨
          (321 ≤ s.ppu.cycle ∧ s.ppu.cycle % 8 ≠ 0) ∨ 337 ≤ s.ppu.cycle →
        (ppuTick s).ppu.v = s.ppu.v)) ∧
    (240 ≤ s.ppu.scanline → s.ppu.scanline ≠ 261 → (ppuTick s).ppu.v = s.ppu.v)

/-- The background fetches on a render line with rendering enabled: at each of the cycles 1 to 256 and 321 to 336 the tile register
moves one pixel left; at cycle 1, 3, 5 and 7 of eight the nametable byte, the attribute value, the low and the high pattern
byte are fetched from the addresses that v and the control register give, and at cycle 8 the eight pixels are ORed into the low
half of the tile register. At every other tick, and with rendering disabled, none of these changes (R352 to R355). -/
def Obligations.BackgroundFetches : Prop :=
  ∀ (s : State) (fetching : Bool) (v c : Nat) (pattern : Word), v = s.ppu.v.toNat → c = s.ppu.cycle →
    fetching = ((s.ppu.mask.getLsbD 3 || s.ppu.mask.getLsbD 4) && (decide (s.ppu.scanline ≤ 239) || s.ppu.scanline == 261) &&
      ((decide (1 ≤ c) && decide (c ≤ 256)) || (decide (321 ≤ c) && decide (c ≤ 336)))) →
    pattern = BitVec.ofNat 16 ((if s.ppu.ctrl.getLsbD 4 then 0x1000 else 0) + 16 * s.ppu.ntByte.toNat + v / 4096 % 8) →
    (ppuTick s).ppu.ntByte =
      (if fetching = true ∧ c % 8 = 1 then ppuRead (BitVec.ofNat 16 (0x2000 + v % 0x1000)) s else s.ppu.ntByte) ∧
    (ppuTick s).ppu.atBits.toNat =
      (if fetching = true ∧ c % 8 = 3 then
        4 * ((ppuRead (BitVec.ofNat 16 (0x23C0 + v / 1024 % 4 * 1024 + v / 128 % 8 * 8 + v / 4 % 8)) s).toNat /
          2 ^ (4 * (v / 64 % 2) + 2 * (v / 2 % 2)) % 4)
      else s.ppu.atBits.toNat) ∧
    (ppuTick s).ppu.patLo = (if fetching = true ∧ c % 8 = 5 then ppuRead pattern s else s.ppu.patLo) ∧
    (ppuTick s).ppu.patHi = (if fetching = true ∧ c % 8 = 7 then ppuRead (pattern + 8) s else s.ppu.patHi) ∧
    (fetching = false → (ppuTick s).ppu.tileData = s.ppu.tileData) ∧
    (fetching = true → c % 8 ≠ 0 → (ppuTick s).ppu.tileData.toNat = s.ppu.tileData.toNat * 16 % 2 ^ 64) ∧
    (fetching = true → c % 8 = 0 → s.latchWf = true →
      (ppuTick s).ppu.tileData.toNat / 2 ^ 32 = s.ppu.tileData.toNat / 2 ^ 28 % 2 ^ 32 ∧
      ∀ k, k < 8 → (ppuTick s).ppu.tileData.toNat / 16 ^ k % 16 = (s.ppu.tileData.toNat * 16 / 16 ^ k % 16) |||
        (s.ppu.atBits.toNat + 2 * bit (s.ppu.patHi.getLsbD k) + bit (s.ppu.patLo.getLsbD k)))

/-- Sprite evaluation at cycle 257 of a visible line with rendering enabled: the buffer is what the first eight sprites whose rows
include the line draw, in OAM order, into an empty one, and overflow is set exactly by a ninth such sprite; at cycle 257 of the
pre-render line the buffer is cleared; at no other tick, the idle and vertical blank lines among them, does the buffer change,
nor the overflow flag but for the clear at (261, 1) (R312, R360, R363). -/
def Obligations.SpriteEvaluationAndOverflow : Prop :=
  ∀ (s : State) (h : Nat) (matching : List Nat), h = (if s.ppu.ctrl.getLsbD 5 then 16 else 8) →
    matching = ((List.range 64).filter fun n => decide ((s.ppu.oam.read (4 * n)).toNat ≤ s.ppu.scanline) &&
      decide (s.ppu.scanline < (s.ppu.oam.read (4 * n)).toNat + h)) →
    ((s.ppu.mask.getLsbD 3 || s.ppu.mask.getLsbD 4) = true → s.ppu.cycle = 257 →
      (s.ppu.scanline ≤ 239 →
        (ppuTick s).ppu.spriteLine = (matching.take 8).foldl
          (fun line n => rasterize n (s.ppu.scanline - (s.ppu.oam.read (4 * n)).toNat) h line s) [] ∧
        (ppuTick s).ppu.spriteOverflow = (s.ppu.spriteOverflow || decide (8 < matching.length))) ∧
      (s.ppu.scanline = 261 → (ppuTick s).ppu.spriteLine = [])) ∧
    (¬((s.ppu.mask.getLsbD 3 || s.ppu.mask.getLsbD 4) = true ∧ s.ppu.cycle = 257 ∧ (s.ppu.scanline ≤ 239 ∨ s.ppu.scanline = 261)) →
      (ppuTick s).ppu.spriteLine = s.ppu.spriteLine) ∧
    (¬((s.ppu.mask.getLsbD 3 || s.ppu.mask.getLsbD 4) = true ∧ s.ppu.cycle = 257 ∧ s.ppu.scanline ≤ 239) →
      ¬(s.ppu.scanline = 261 ∧ s.ppu.cycle = 1) → (ppuTick s).ppu.spriteOverflow = s.ppu.spriteOverflow)

/-- Rasterizing one row of one sprite: the pattern address in both sprite heights with the vertical flip, the eight pixels with the
horizontal flip, and that a pixel already taken, a pixel of pattern 0 and one past the right edge are not drawn (R361, R362). -/
def Obligations.SpriteRasterization : Prop :=
  ∀ (s : State) (n row h x : Nat) (line : Sparse SpritePixel) (tile attr left : Byte) (r : Nat) (a : Word) (b : Nat) (pat : BitVec 2),
    Sparse.wf .transparent 256 line = true → x < 256 → (h = 8 ∨ h = 16) → row < h →
    tile = s.ppu.oam.read (4 * n + 1) → attr = s.ppu.oam.read (4 * n + 2) → left = s.ppu.oam.read (4 * n + 3) →
    r = (if attr.getLsbD 7 then h - 1 - row else row) →
    a = BitVec.ofNat 16
      (if h = 8 then (if s.ppu.ctrl.getLsbD 3 then 0x1000 else 0) + 16 * tile.toNat + r
      else 0x1000 * (tile.toNat % 2) + 16 * (tile.toNat / 2 * 2 + r / 8) + r % 8) →
    b = (if attr.getLsbD 6 then x - left.toNat else 7 - (x - left.toNat)) →
    pat.toNat = 2 * bit ((ppuRead (a + 8) s).getLsbD b) + bit ((ppuRead a s).getLsbD b) →
    Sparse.get .transparent (rasterize n row h line s) x =
      if Sparse.get .transparent line x = .transparent ∧ left.toNat ≤ x ∧ x < left.toNat + 8 ∧ pat ≠ 0 then
        .solid (BitVec.ofNat 2 (attr.toNat % 4)) pat (n == 0)
      else Sparse.get .transparent line x

/-- A visible pixel with rendering enabled: the background and the sprite pixel after clipping, their composition, the palette
entry, greyscale, the one place of the back frame it goes to, and sprite-zero hit; with rendering disabled, the backdrop
(R370 to R375). At every other tick neither frame is written and sprite-zero hit is not set (R350). The host sees the
presentation side in the system's colours, and no tick changes what it sees but the one that swaps the frames (R310, R314). -/
def Obligations.PixelComposition : Prop :=
  ∀ s : State,
    (∀ (bg : Nat) (sp : SpritePixel) (color c : Nat), s.memoriesWf = true →
      s.ppu.scanline ≤ 239 → 1 ≤ s.ppu.cycle → s.ppu.cycle ≤ 256 →
      bg = (if s.ppu.mask.getLsbD 3 = true ∧ (8 ≤ s.ppu.cycle - 1 ∨ s.ppu.mask.getLsbD 1 = true)
        then s.ppu.tileData.toNat / 2 ^ (32 + 4 * (7 - s.ppu.x.toNat)) % 16 else 0) →
      sp = (if s.ppu.mask.getLsbD 4 = true ∧ (8 ≤ s.ppu.cycle - 1 ∨ s.ppu.mask.getLsbD 2 = true)
        then Sparse.get .transparent s.ppu.spriteLine (s.ppu.cycle - 1) else .transparent) →
      color = (match sp with
        | .solid pal pat _ => 16 + 4 * pal.toNat + pat.toNat
        | .transparent => if bg % 4 ≠ 0 then bg else 0) →
      c = (ppuRead (BitVec.ofNat 16 (0x3F00 + color)) s &&& (if s.ppu.mask.getLsbD 0 then 0x30 else 0x3F)).toNat →
      (∀ x y, x ≤ 255 → y ≤ 239 →
        (framePixel (if s.ppu.front = 0 then (ppuTick s).ppu.frame1 else (ppuTick s).ppu.frame0) x y).toNat =
          (if x = s.ppu.cycle - 1 ∧ y = s.ppu.scanline then c
          else (framePixel (if s.ppu.front = 0 then s.ppu.frame1 else s.ppu.frame0) x y).toNat)) ∧
      (if s.ppu.front = 0 then (ppuTick s).ppu.frame0 = s.ppu.frame0 else (ppuTick s).ppu.frame1 = s.ppu.frame1) ∧
      (ppuTick s).ppu.sprite0Hit = (s.ppu.sprite0Hit ||
        (match sp with
          | .solid _ _ true => decide (bg % 4 ≠ 0) && decide (s.ppu.cycle - 1 ≠ 255)
          | _ => false))) ∧
    (¬(s.ppu.scanline ≤ 239 ∧ 1 ≤ s.ppu.cycle ∧ s.ppu.cycle ≤ 256) →
      (ppuTick s).ppu.frame0 = s.ppu.frame0 ∧ (ppuTick s).ppu.frame1 = s.ppu.frame1 ∧
      (ppuTick s).ppu.sprite0Hit =
        (s.ppu.sprite0Hit && !(decide (s.ppu.scanline = 261) && decide (s.ppu.cycle = 1)))) ∧
    (∀ x y, x ≤ 255 → y ≤ 239 → s.countersWf = true →
      getPixel x y s = Config.systemPalette (framePixel (if s.ppu.front = 0 then s.ppu.frame0 else s.ppu.frame1) x y) ∧
      getPixel x y (ppuTick s) =
        (if s.ppu.scanline = 261 ∧ s.ppu.cycle = 340 then
          Config.systemPalette (framePixel (if s.ppu.front = 0 then s.ppu.frame1 else s.ppu.frame0) x y)
        else getPixel x y s))

/-! ## Reset and loading -/

/-- The host's reset, from any state: what it writes, that it leaves everything else, and that a second one changes nothing
(R441, R442, R443). -/
def Obligations.ResetWritesAndKeeps : Prop :=
  ∀ (s : State) (rest : List HostMove),
    step { s with host := .reset :: rest } = .next { s with
      host := rest
      pc := mkWord (s.cart.cpuRead 0xFFFC) (s.cart.cpuRead 0xFFFD)
      sp := 0xFD, p := 0x24, a := 0, x := 0, y := 0, pending := none, running := true, haltCause := none
      ppu := { s.ppu with
        cycle := 0, scanline := 0, ctrl := 0x00, mask := 0x00, vblank := false, sprite0Hit := false, spriteOverflow := false
        oamAddr := 0x00, v := 0, t := 0, x := 0, w := false, readBuffer := 0x00, ntByte := 0, atBits := 0, patLo := 0, patHi := 0
        tileData := 0, spriteLine := [] } } ∧
    hostReset (hostReset s) = hostReset s

/-- `loadGame`: the three refusals, and for every other image the cartridge, the mapper and its fallbacks, the diagnostics, the
fills and the state it ends in (R100, R101, R102, R440). That MapperFallback stands before TruncatedBody when both apply, and that
the fills are functions of the place, is the model's choice (log entry 16). -/
def Obligations.LoadGameBuildsTheConsole : Prop :=
  ∀ (fill : FillRegion → Nat → Byte) (missing : Nat → Byte) (params : Params) (image : List Byte),
    (image.length < 16 → loadGame fill missing params image = .error .shortHeader) ∧
    ∀ b4 b5 b6 b7 : Byte, 16 ≤ image.length → image[4]? = some b4 → image[5]? = some b5 → image[6]? = some b6 →
      image[7]? = some b7 →
      (b4 = 0 → loadGame fill missing params image = .error .noPrg) ∧
      (b4 ≠ 0 → b5 = 0 → loadGame fill missing params image = .error .chrRamUnsupported) ∧
      (b4 ≠ 0 → b5 ≠ 0 → ∀ id full : Nat, id = b6.toNat / 16 + b7.toNat / 16 * 16 →
        full = 16 + 16384 * b4.toNat + 8192 * b5.toNat →
        ∃ s, loadGame fill missing params image = .ok s ∧
          s.cart.nPrg = b4.toNat ∧ s.cart.nChr = b5.toNat ∧
          s.cart.kind = (if id = 1 ∧ full ≤ image.length then .shiftBanked else .fixed) ∧
          s.cart.mirror = (if b6.getLsbD 0 then .vertical else .horizontal) ∧
          s.cart.shift = 0b10000 ∧ s.cart.control = 0x0C ∧ s.cart.chr0 = 0 ∧ s.cart.chr1 = 0 ∧ s.cart.prgReg = 0 ∧
          s.loadDiag = (if id = 0 ∨ id = 1 then [] else [.mapperFallback (BitVec.ofNat 8 id)]) ++
            (if image.length < full then [.truncatedBody image.length] else []) ∧
          (∀ k, k < 16384 * b4.toNat → s.cart.prg.read k = (image[16 + k]?).getD (missing (16 + k))) ∧
          (∀ k, k < 8192 * b5.toNat → s.cart.chr.read k =
            (image[16 + 16384 * b4.toNat + k]?).getD (missing (16 + 16384 * b4.toNat + k))) ∧
          (∀ k, k < 0x800 → s.ram.read k = fill .ram k ∧ s.ntRam.read k = fill .ntRam k) ∧
          (∀ k, k < 32 → s.palRam.read k = fill .palRam k) ∧ (∀ k, k < 256 → s.ppu.oam.read k = fill .oam k) ∧
          (∀ k, k < 0x2000 → s.cart.prgRam.read k = fill .prgRam k) ∧
          s.pc = mkWord (s.cart.cpuRead 0xFFFC) (s.cart.cpuRead 0xFFFD) ∧ s.sp = 0xFD ∧ s.p = 0x24 ∧ s.a = 0 ∧ s.x = 0 ∧
          s.y = 0 ∧ s.running = true ∧ s.haltCause = none ∧ s.pending = none ∧ s.strobe = 0 ∧ s.index = 0 ∧ s.faults = [] ∧
          s.ppu = { Ppu.initial with oam := s.ppu.oam } ∧ s.params = params)

/-! ## Invariants of every step -/

/-- Every step keeps every memory in canonical form and in its size. The sizes are the spec's (R27, R34, R40 to R43); the canonical
form is the model's choice (log entry 15). -/
def Obligations.StepsKeepMemoriesCanonical : Prop :=
  ∀ s t : State, s.memoriesWf = true → step s = .next t → t.memoriesWf = true

/-- Every step keeps the registers legal: bits 5 and 4 of P, the PPU's counters and attribute latch, the mapper's shift register and
the fixed-bank mapper's mirroring, the halt and its record, and no cycle owed to the PPU. -/
def Obligations.StepsKeepRegistersLegal : Prop :=
  ∀ s t : State,
    (s.statusWf && s.countersWf && s.latchWf && s.mapperWf && s.haltWf && s.settled) = true → step s = .next t →
    (t.statusWf && t.countersWf && t.latchWf && t.mapperWf && t.haltWf && t.settled) = true

/-- No step takes a record out of the fault log, writes ROM, or changes the mapper, the load diagnostics or the launch parameters;
and once a fault is recorded, or the host has quit, no later state ends a run successfully, whatever the host does (R43, R45, R85,
R422). The flag for quit is the model's own (log entry 9). -/
def Obligations.StepsKeepTheFaultLogAndTheRom : Prop :=
  ∀ s t : State, step s = .next t →
    (∃ new, t.faults = s.faults ++ new) ∧
    t.cart.kind = s.cart.kind ∧ t.cart.nPrg = s.cart.nPrg ∧ t.cart.nChr = s.cart.nChr ∧ t.cart.prg = s.cart.prg ∧
    t.cart.chr = s.cart.chr ∧ t.loadDiag = s.loadDiag ∧ t.params = s.params ∧
    (s.quit = true → t.quit = true) ∧
    (s.faults ≠ [] ∨ s.quit = true → t.endedSuccessfully = false)

/-- The host's RaiseIRQ writes IRQ only into an empty cell, and no other step puts an IRQ into it (R404). The host list is the
model's own (log entry 9). -/
def Obligations.OnlyTheHostRaisesIrq : Prop :=
  ∀ s t : State,
    (∀ rest, s.host = .raiseIRQ :: rest →
      step s = .next { s with host := rest, pending := if s.pending = none then some .irq else s.pending }) ∧
    (s.host.head? ≠ some .raiseIRQ → step s = .next t → t.pending = some .irq → s.pending = some .irq)

/-- The state after reset meets what the invariants say. The blank cartridge and the memory contents of State.reset are the
model's choice (log entries 5 to 7). -/
def Obligations.ResetMeetsTheInvariants : Prop :=
  (State.reset.memoriesWf && State.reset.statusWf && State.reset.countersWf && State.reset.latchWf && State.reset.mapperWf &&
    State.reset.haltWf && State.reset.settled) = true

end
end

