-- ==== Sys2Proof/Laws/State.lean ====
section
/-! SUPPORT. One lemma a field for each named update of State, true by rfl, so that no proof unfolds a record update. -/

namespace Sys2Proof.Machine

variable (s : State)

/-! ### State.setPpu -/

@[simp] theorem State.setPpu_a (q : Ppu) : (s.setPpu q).a = s.a := rfl
@[simp] theorem State.setPpu_x (q : Ppu) : (s.setPpu q).x = s.x := rfl
@[simp] theorem State.setPpu_y (q : Ppu) : (s.setPpu q).y = s.y := rfl
@[simp] theorem State.setPpu_sp (q : Ppu) : (s.setPpu q).sp = s.sp := rfl
@[simp] theorem State.setPpu_p (q : Ppu) : (s.setPpu q).p = s.p := rfl
@[simp] theorem State.setPpu_pc (q : Ppu) : (s.setPpu q).pc = s.pc := rfl
@[simp] theorem State.setPpu_running (q : Ppu) : (s.setPpu q).running = s.running := rfl
@[simp] theorem State.setPpu_haltCause (q : Ppu) : (s.setPpu q).haltCause = s.haltCause := rfl
@[simp] theorem State.setPpu_pending (q : Ppu) : (s.setPpu q).pending = s.pending := rfl
@[simp] theorem State.setPpu_ram (q : Ppu) : (s.setPpu q).ram = s.ram := rfl
@[simp] theorem State.setPpu_ntRam (q : Ppu) : (s.setPpu q).ntRam = s.ntRam := rfl
@[simp] theorem State.setPpu_palRam (q : Ppu) : (s.setPpu q).palRam = s.palRam := rfl
@[simp] theorem State.setPpu_strobe (q : Ppu) : (s.setPpu q).strobe = s.strobe := rfl
@[simp] theorem State.setPpu_index (q : Ppu) : (s.setPpu q).index = s.index := rfl
@[simp] theorem State.setPpu_ppu (q : Ppu) : (s.setPpu q).ppu = q := rfl
@[simp] theorem State.setPpu_cart (q : Ppu) : (s.setPpu q).cart = s.cart := rfl
@[simp] theorem State.setPpu_faults (q : Ppu) : (s.setPpu q).faults = s.faults := rfl
@[simp] theorem State.setPpu_loadDiag (q : Ppu) : (s.setPpu q).loadDiag = s.loadDiag := rfl
@[simp] theorem State.setPpu_params (q : Ppu) : (s.setPpu q).params = s.params := rfl
@[simp] theorem State.setPpu_draws (q : Ppu) : (s.setPpu q).draws = s.draws := rfl
@[simp] theorem State.setPpu_cycles (q : Ppu) : (s.setPpu q).cycles = s.cycles := rfl
@[simp] theorem State.setPpu_host (q : Ppu) : (s.setPpu q).host = s.host := rfl
@[simp] theorem State.setPpu_quit (q : Ppu) : (s.setPpu q).quit = s.quit := rfl

/-! ### State.nextDraw -/

@[simp] theorem State.nextDraw_a : (s.nextDraw).a = s.a := rfl
@[simp] theorem State.nextDraw_x : (s.nextDraw).x = s.x := rfl
@[simp] theorem State.nextDraw_y : (s.nextDraw).y = s.y := rfl
@[simp] theorem State.nextDraw_sp : (s.nextDraw).sp = s.sp := rfl
@[simp] theorem State.nextDraw_p : (s.nextDraw).p = s.p := rfl
@[simp] theorem State.nextDraw_pc : (s.nextDraw).pc = s.pc := rfl
@[simp] theorem State.nextDraw_running : (s.nextDraw).running = s.running := rfl
@[simp] theorem State.nextDraw_haltCause : (s.nextDraw).haltCause = s.haltCause := rfl
@[simp] theorem State.nextDraw_pending : (s.nextDraw).pending = s.pending := rfl
@[simp] theorem State.nextDraw_ram : (s.nextDraw).ram = s.ram := rfl
@[simp] theorem State.nextDraw_ntRam : (s.nextDraw).ntRam = s.ntRam := rfl
@[simp] theorem State.nextDraw_palRam : (s.nextDraw).palRam = s.palRam := rfl
@[simp] theorem State.nextDraw_strobe : (s.nextDraw).strobe = s.strobe := rfl
@[simp] theorem State.nextDraw_index : (s.nextDraw).index = s.index := rfl
@[simp] theorem State.nextDraw_ppu : (s.nextDraw).ppu = s.ppu := rfl
@[simp] theorem State.nextDraw_cart : (s.nextDraw).cart = s.cart := rfl
@[simp] theorem State.nextDraw_faults : (s.nextDraw).faults = s.faults := rfl
@[simp] theorem State.nextDraw_loadDiag : (s.nextDraw).loadDiag = s.loadDiag := rfl
@[simp] theorem State.nextDraw_params : (s.nextDraw).params = s.params := rfl
@[simp] theorem State.nextDraw_draws : (s.nextDraw).draws = s.draws + 1 := rfl
@[simp] theorem State.nextDraw_cycles : (s.nextDraw).cycles = s.cycles := rfl
@[simp] theorem State.nextDraw_host : (s.nextDraw).host = s.host := rfl
@[simp] theorem State.nextDraw_quit : (s.nextDraw).quit = s.quit := rfl

/-! ### State.setFlag -/

@[simp] theorem State.setFlag_a (f : Flag) (b : Bool) : (s.setFlag f b).a = s.a := rfl
@[simp] theorem State.setFlag_x (f : Flag) (b : Bool) : (s.setFlag f b).x = s.x := rfl
@[simp] theorem State.setFlag_y (f : Flag) (b : Bool) : (s.setFlag f b).y = s.y := rfl
@[simp] theorem State.setFlag_sp (f : Flag) (b : Bool) : (s.setFlag f b).sp = s.sp := rfl
@[simp] theorem State.setFlag_p (f : Flag) (b : Bool) : (s.setFlag f b).p = putFlag f b s.p := rfl
@[simp] theorem State.setFlag_pc (f : Flag) (b : Bool) : (s.setFlag f b).pc = s.pc := rfl
@[simp] theorem State.setFlag_running (f : Flag) (b : Bool) : (s.setFlag f b).running = s.running := rfl
@[simp] theorem State.setFlag_haltCause (f : Flag) (b : Bool) : (s.setFlag f b).haltCause = s.haltCause := rfl
@[simp] theorem State.setFlag_pending (f : Flag) (b : Bool) : (s.setFlag f b).pending = s.pending := rfl
@[simp] theorem State.setFlag_ram (f : Flag) (b : Bool) : (s.setFlag f b).ram = s.ram := rfl
@[simp] theorem State.setFlag_ntRam (f : Flag) (b : Bool) : (s.setFlag f b).ntRam = s.ntRam := rfl
@[simp] theorem State.setFlag_palRam (f : Flag) (b : Bool) : (s.setFlag f b).palRam = s.palRam := rfl
@[simp] theorem State.setFlag_strobe (f : Flag) (b : Bool) : (s.setFlag f b).strobe = s.strobe := rfl
@[simp] theorem State.setFlag_index (f : Flag) (b : Bool) : (s.setFlag f b).index = s.index := rfl
@[simp] theorem State.setFlag_ppu (f : Flag) (b : Bool) : (s.setFlag f b).ppu = s.ppu := rfl
@[simp] theorem State.setFlag_cart (f : Flag) (b : Bool) : (s.setFlag f b).cart = s.cart := rfl
@[simp] theorem State.setFlag_faults (f : Flag) (b : Bool) : (s.setFlag f b).faults = s.faults := rfl
@[simp] theorem State.setFlag_loadDiag (f : Flag) (b : Bool) : (s.setFlag f b).loadDiag = s.loadDiag := rfl
@[simp] theorem State.setFlag_params (f : Flag) (b : Bool) : (s.setFlag f b).params = s.params := rfl
@[simp] theorem State.setFlag_draws (f : Flag) (b : Bool) : (s.setFlag f b).draws = s.draws := rfl
@[simp] theorem State.setFlag_cycles (f : Flag) (b : Bool) : (s.setFlag f b).cycles = s.cycles := rfl
@[simp] theorem State.setFlag_host (f : Flag) (b : Bool) : (s.setFlag f b).host = s.host := rfl
@[simp] theorem State.setFlag_quit (f : Flag) (b : Bool) : (s.setFlag f b).quit = s.quit := rfl

/-! ### State.setZN -/

@[simp] theorem State.setZN_a (r : Byte) : (s.setZN r).a = s.a := rfl
@[simp] theorem State.setZN_x (r : Byte) : (s.setZN r).x = s.x := rfl
@[simp] theorem State.setZN_y (r : Byte) : (s.setZN r).y = s.y := rfl
@[simp] theorem State.setZN_sp (r : Byte) : (s.setZN r).sp = s.sp := rfl
@[simp] theorem State.setZN_p (r : Byte) : (s.setZN r).p = Machine.setZN r s.p := rfl
@[simp] theorem State.setZN_pc (r : Byte) : (s.setZN r).pc = s.pc := rfl
@[simp] theorem State.setZN_running (r : Byte) : (s.setZN r).running = s.running := rfl
@[simp] theorem State.setZN_haltCause (r : Byte) : (s.setZN r).haltCause = s.haltCause := rfl
@[simp] theorem State.setZN_pending (r : Byte) : (s.setZN r).pending = s.pending := rfl
@[simp] theorem State.setZN_ram (r : Byte) : (s.setZN r).ram = s.ram := rfl
@[simp] theorem State.setZN_ntRam (r : Byte) : (s.setZN r).ntRam = s.ntRam := rfl
@[simp] theorem State.setZN_palRam (r : Byte) : (s.setZN r).palRam = s.palRam := rfl
@[simp] theorem State.setZN_strobe (r : Byte) : (s.setZN r).strobe = s.strobe := rfl
@[simp] theorem State.setZN_index (r : Byte) : (s.setZN r).index = s.index := rfl
@[simp] theorem State.setZN_ppu (r : Byte) : (s.setZN r).ppu = s.ppu := rfl
@[simp] theorem State.setZN_cart (r : Byte) : (s.setZN r).cart = s.cart := rfl
@[simp] theorem State.setZN_faults (r : Byte) : (s.setZN r).faults = s.faults := rfl
@[simp] theorem State.setZN_loadDiag (r : Byte) : (s.setZN r).loadDiag = s.loadDiag := rfl
@[simp] theorem State.setZN_params (r : Byte) : (s.setZN r).params = s.params := rfl
@[simp] theorem State.setZN_draws (r : Byte) : (s.setZN r).draws = s.draws := rfl
@[simp] theorem State.setZN_cycles (r : Byte) : (s.setZN r).cycles = s.cycles := rfl
@[simp] theorem State.setZN_host (r : Byte) : (s.setZN r).host = s.host := rfl
@[simp] theorem State.setZN_quit (r : Byte) : (s.setZN r).quit = s.quit := rfl

/-! ### State.loadA -/

@[simp] theorem State.loadA_a (r : Byte) : (s.loadA r).a = r := rfl
@[simp] theorem State.loadA_x (r : Byte) : (s.loadA r).x = s.x := rfl
@[simp] theorem State.loadA_y (r : Byte) : (s.loadA r).y = s.y := rfl
@[simp] theorem State.loadA_sp (r : Byte) : (s.loadA r).sp = s.sp := rfl
@[simp] theorem State.loadA_p (r : Byte) : (s.loadA r).p = Machine.setZN r s.p := rfl
@[simp] theorem State.loadA_pc (r : Byte) : (s.loadA r).pc = s.pc := rfl
@[simp] theorem State.loadA_running (r : Byte) : (s.loadA r).running = s.running := rfl
@[simp] theorem State.loadA_haltCause (r : Byte) : (s.loadA r).haltCause = s.haltCause := rfl
@[simp] theorem State.loadA_pending (r : Byte) : (s.loadA r).pending = s.pending := rfl
@[simp] theorem State.loadA_ram (r : Byte) : (s.loadA r).ram = s.ram := rfl
@[simp] theorem State.loadA_ntRam (r : Byte) : (s.loadA r).ntRam = s.ntRam := rfl
@[simp] theorem State.loadA_palRam (r : Byte) : (s.loadA r).palRam = s.palRam := rfl
@[simp] theorem State.loadA_strobe (r : Byte) : (s.loadA r).strobe = s.strobe := rfl
@[simp] theorem State.loadA_index (r : Byte) : (s.loadA r).index = s.index := rfl
@[simp] theorem State.loadA_ppu (r : Byte) : (s.loadA r).ppu = s.ppu := rfl
@[simp] theorem State.loadA_cart (r : Byte) : (s.loadA r).cart = s.cart := rfl
@[simp] theorem State.loadA_faults (r : Byte) : (s.loadA r).faults = s.faults := rfl
@[simp] theorem State.loadA_loadDiag (r : Byte) : (s.loadA r).loadDiag = s.loadDiag := rfl
@[simp] theorem State.loadA_params (r : Byte) : (s.loadA r).params = s.params := rfl
@[simp] theorem State.loadA_draws (r : Byte) : (s.loadA r).draws = s.draws := rfl
@[simp] theorem State.loadA_cycles (r : Byte) : (s.loadA r).cycles = s.cycles := rfl
@[simp] theorem State.loadA_host (r : Byte) : (s.loadA r).host = s.host := rfl
@[simp] theorem State.loadA_quit (r : Byte) : (s.loadA r).quit = s.quit := rfl

/-! ### State.loadX -/

@[simp] theorem State.loadX_a (r : Byte) : (s.loadX r).a = s.a := rfl
@[simp] theorem State.loadX_x (r : Byte) : (s.loadX r).x = r := rfl
@[simp] theorem State.loadX_y (r : Byte) : (s.loadX r).y = s.y := rfl
@[simp] theorem State.loadX_sp (r : Byte) : (s.loadX r).sp = s.sp := rfl
@[simp] theorem State.loadX_p (r : Byte) : (s.loadX r).p = Machine.setZN r s.p := rfl
@[simp] theorem State.loadX_pc (r : Byte) : (s.loadX r).pc = s.pc := rfl
@[simp] theorem State.loadX_running (r : Byte) : (s.loadX r).running = s.running := rfl
@[simp] theorem State.loadX_haltCause (r : Byte) : (s.loadX r).haltCause = s.haltCause := rfl
@[simp] theorem State.loadX_pending (r : Byte) : (s.loadX r).pending = s.pending := rfl
@[simp] theorem State.loadX_ram (r : Byte) : (s.loadX r).ram = s.ram := rfl
@[simp] theorem State.loadX_ntRam (r : Byte) : (s.loadX r).ntRam = s.ntRam := rfl
@[simp] theorem State.loadX_palRam (r : Byte) : (s.loadX r).palRam = s.palRam := rfl
@[simp] theorem State.loadX_strobe (r : Byte) : (s.loadX r).strobe = s.strobe := rfl
@[simp] theorem State.loadX_index (r : Byte) : (s.loadX r).index = s.index := rfl
@[simp] theorem State.loadX_ppu (r : Byte) : (s.loadX r).ppu = s.ppu := rfl
@[simp] theorem State.loadX_cart (r : Byte) : (s.loadX r).cart = s.cart := rfl
@[simp] theorem State.loadX_faults (r : Byte) : (s.loadX r).faults = s.faults := rfl
@[simp] theorem State.loadX_loadDiag (r : Byte) : (s.loadX r).loadDiag = s.loadDiag := rfl
@[simp] theorem State.loadX_params (r : Byte) : (s.loadX r).params = s.params := rfl
@[simp] theorem State.loadX_draws (r : Byte) : (s.loadX r).draws = s.draws := rfl
@[simp] theorem State.loadX_cycles (r : Byte) : (s.loadX r).cycles = s.cycles := rfl
@[simp] theorem State.loadX_host (r : Byte) : (s.loadX r).host = s.host := rfl
@[simp] theorem State.loadX_quit (r : Byte) : (s.loadX r).quit = s.quit := rfl

/-! ### State.loadY -/

@[simp] theorem State.loadY_a (r : Byte) : (s.loadY r).a = s.a := rfl
@[simp] theorem State.loadY_x (r : Byte) : (s.loadY r).x = s.x := rfl
@[simp] theorem State.loadY_y (r : Byte) : (s.loadY r).y = r := rfl
@[simp] theorem State.loadY_sp (r : Byte) : (s.loadY r).sp = s.sp := rfl
@[simp] theorem State.loadY_p (r : Byte) : (s.loadY r).p = Machine.setZN r s.p := rfl
@[simp] theorem State.loadY_pc (r : Byte) : (s.loadY r).pc = s.pc := rfl
@[simp] theorem State.loadY_running (r : Byte) : (s.loadY r).running = s.running := rfl
@[simp] theorem State.loadY_haltCause (r : Byte) : (s.loadY r).haltCause = s.haltCause := rfl
@[simp] theorem State.loadY_pending (r : Byte) : (s.loadY r).pending = s.pending := rfl
@[simp] theorem State.loadY_ram (r : Byte) : (s.loadY r).ram = s.ram := rfl
@[simp] theorem State.loadY_ntRam (r : Byte) : (s.loadY r).ntRam = s.ntRam := rfl
@[simp] theorem State.loadY_palRam (r : Byte) : (s.loadY r).palRam = s.palRam := rfl
@[simp] theorem State.loadY_strobe (r : Byte) : (s.loadY r).strobe = s.strobe := rfl
@[simp] theorem State.loadY_index (r : Byte) : (s.loadY r).index = s.index := rfl
@[simp] theorem State.loadY_ppu (r : Byte) : (s.loadY r).ppu = s.ppu := rfl
@[simp] theorem State.loadY_cart (r : Byte) : (s.loadY r).cart = s.cart := rfl
@[simp] theorem State.loadY_faults (r : Byte) : (s.loadY r).faults = s.faults := rfl
@[simp] theorem State.loadY_loadDiag (r : Byte) : (s.loadY r).loadDiag = s.loadDiag := rfl
@[simp] theorem State.loadY_params (r : Byte) : (s.loadY r).params = s.params := rfl
@[simp] theorem State.loadY_draws (r : Byte) : (s.loadY r).draws = s.draws := rfl
@[simp] theorem State.loadY_cycles (r : Byte) : (s.loadY r).cycles = s.cycles := rfl
@[simp] theorem State.loadY_host (r : Byte) : (s.loadY r).host = s.host := rfl
@[simp] theorem State.loadY_quit (r : Byte) : (s.loadY r).quit = s.quit := rfl

/-! ### State.addCore -/

@[simp] theorem State.addCore_a (m : Byte) : (s.addCore m).a = addResult s.a m (s.flag .c) := rfl
@[simp] theorem State.addCore_x (m : Byte) : (s.addCore m).x = s.x := rfl
@[simp] theorem State.addCore_y (m : Byte) : (s.addCore m).y = s.y := rfl
@[simp] theorem State.addCore_sp (m : Byte) : (s.addCore m).sp = s.sp := rfl
@[simp] theorem State.addCore_pc (m : Byte) : (s.addCore m).pc = s.pc := rfl
@[simp] theorem State.addCore_running (m : Byte) : (s.addCore m).running = s.running := rfl
@[simp] theorem State.addCore_haltCause (m : Byte) : (s.addCore m).haltCause = s.haltCause := rfl
@[simp] theorem State.addCore_pending (m : Byte) : (s.addCore m).pending = s.pending := rfl
@[simp] theorem State.addCore_ram (m : Byte) : (s.addCore m).ram = s.ram := rfl
@[simp] theorem State.addCore_ntRam (m : Byte) : (s.addCore m).ntRam = s.ntRam := rfl
@[simp] theorem State.addCore_palRam (m : Byte) : (s.addCore m).palRam = s.palRam := rfl
@[simp] theorem State.addCore_strobe (m : Byte) : (s.addCore m).strobe = s.strobe := rfl
@[simp] theorem State.addCore_index (m : Byte) : (s.addCore m).index = s.index := rfl
@[simp] theorem State.addCore_ppu (m : Byte) : (s.addCore m).ppu = s.ppu := rfl
@[simp] theorem State.addCore_cart (m : Byte) : (s.addCore m).cart = s.cart := rfl
@[simp] theorem State.addCore_faults (m : Byte) : (s.addCore m).faults = s.faults := rfl
@[simp] theorem State.addCore_loadDiag (m : Byte) : (s.addCore m).loadDiag = s.loadDiag := rfl
@[simp] theorem State.addCore_params (m : Byte) : (s.addCore m).params = s.params := rfl
@[simp] theorem State.addCore_draws (m : Byte) : (s.addCore m).draws = s.draws := rfl
@[simp] theorem State.addCore_cycles (m : Byte) : (s.addCore m).cycles = s.cycles := rfl
@[simp] theorem State.addCore_host (m : Byte) : (s.addCore m).host = s.host := rfl
@[simp] theorem State.addCore_quit (m : Byte) : (s.addCore m).quit = s.quit := rfl

/-! ### State.subCore -/

@[simp] theorem State.subCore_a (m : Byte) : (s.subCore m).a = addResult s.a (m ^^^ 0xFF) (s.flag .c) := rfl
@[simp] theorem State.subCore_x (m : Byte) : (s.subCore m).x = s.x := rfl
@[simp] theorem State.subCore_y (m : Byte) : (s.subCore m).y = s.y := rfl
@[simp] theorem State.subCore_sp (m : Byte) : (s.subCore m).sp = s.sp := rfl
@[simp] theorem State.subCore_pc (m : Byte) : (s.subCore m).pc = s.pc := rfl
@[simp] theorem State.subCore_running (m : Byte) : (s.subCore m).running = s.running := rfl
@[simp] theorem State.subCore_haltCause (m : Byte) : (s.subCore m).haltCause = s.haltCause := rfl
@[simp] theorem State.subCore_pending (m : Byte) : (s.subCore m).pending = s.pending := rfl
@[simp] theorem State.subCore_ram (m : Byte) : (s.subCore m).ram = s.ram := rfl
@[simp] theorem State.subCore_ntRam (m : Byte) : (s.subCore m).ntRam = s.ntRam := rfl
@[simp] theorem State.subCore_palRam (m : Byte) : (s.subCore m).palRam = s.palRam := rfl
@[simp] theorem State.subCore_strobe (m : Byte) : (s.subCore m).strobe = s.strobe := rfl
@[simp] theorem State.subCore_index (m : Byte) : (s.subCore m).index = s.index := rfl
@[simp] theorem State.subCore_ppu (m : Byte) : (s.subCore m).ppu = s.ppu := rfl
@[simp] theorem State.subCore_cart (m : Byte) : (s.subCore m).cart = s.cart := rfl
@[simp] theorem State.subCore_faults (m : Byte) : (s.subCore m).faults = s.faults := rfl
@[simp] theorem State.subCore_loadDiag (m : Byte) : (s.subCore m).loadDiag = s.loadDiag := rfl
@[simp] theorem State.subCore_params (m : Byte) : (s.subCore m).params = s.params := rfl
@[simp] theorem State.subCore_draws (m : Byte) : (s.subCore m).draws = s.draws := rfl
@[simp] theorem State.subCore_cycles (m : Byte) : (s.subCore m).cycles = s.cycles := rfl
@[simp] theorem State.subCore_host (m : Byte) : (s.subCore m).host = s.host := rfl
@[simp] theorem State.subCore_quit (m : Byte) : (s.subCore m).quit = s.quit := rfl

/-! ### State.compareCore -/

@[simp] theorem State.compareCore_a (src m : Byte) : (s.compareCore src m).a = s.a := rfl
@[simp] theorem State.compareCore_x (src m : Byte) : (s.compareCore src m).x = s.x := rfl
@[simp] theorem State.compareCore_y (src m : Byte) : (s.compareCore src m).y = s.y := rfl
@[simp] theorem State.compareCore_sp (src m : Byte) : (s.compareCore src m).sp = s.sp := rfl
@[simp] theorem State.compareCore_p (src m : Byte) : (s.compareCore src m).p = Machine.setZN (src - m) (putFlag .c (decide (m.toNat ≤ src.toNat)) s.p) := rfl
@[simp] theorem State.compareCore_pc (src m : Byte) : (s.compareCore src m).pc = s.pc := rfl
@[simp] theorem State.compareCore_running (src m : Byte) : (s.compareCore src m).running = s.running := rfl
@[simp] theorem State.compareCore_haltCause (src m : Byte) : (s.compareCore src m).haltCause = s.haltCause := rfl
@[simp] theorem State.compareCore_pending (src m : Byte) : (s.compareCore src m).pending = s.pending := rfl
@[simp] theorem State.compareCore_ram (src m : Byte) : (s.compareCore src m).ram = s.ram := rfl
@[simp] theorem State.compareCore_ntRam (src m : Byte) : (s.compareCore src m).ntRam = s.ntRam := rfl
@[simp] theorem State.compareCore_palRam (src m : Byte) : (s.compareCore src m).palRam = s.palRam := rfl
@[simp] theorem State.compareCore_strobe (src m : Byte) : (s.compareCore src m).strobe = s.strobe := rfl
@[simp] theorem State.compareCore_index (src m : Byte) : (s.compareCore src m).index = s.index := rfl
@[simp] theorem State.compareCore_ppu (src m : Byte) : (s.compareCore src m).ppu = s.ppu := rfl
@[simp] theorem State.compareCore_cart (src m : Byte) : (s.compareCore src m).cart = s.cart := rfl
@[simp] theorem State.compareCore_faults (src m : Byte) : (s.compareCore src m).faults = s.faults := rfl
@[simp] theorem State.compareCore_loadDiag (src m : Byte) : (s.compareCore src m).loadDiag = s.loadDiag := rfl
@[simp] theorem State.compareCore_params (src m : Byte) : (s.compareCore src m).params = s.params := rfl
@[simp] theorem State.compareCore_draws (src m : Byte) : (s.compareCore src m).draws = s.draws := rfl
@[simp] theorem State.compareCore_cycles (src m : Byte) : (s.compareCore src m).cycles = s.cycles := rfl
@[simp] theorem State.compareCore_host (src m : Byte) : (s.compareCore src m).host = s.host := rfl
@[simp] theorem State.compareCore_quit (src m : Byte) : (s.compareCore src m).quit = s.quit := rfl

/-! ### State.bitTest -/

@[simp] theorem State.bitTest_a (m : Byte) : (s.bitTest m).a = s.a := rfl
@[simp] theorem State.bitTest_x (m : Byte) : (s.bitTest m).x = s.x := rfl
@[simp] theorem State.bitTest_y (m : Byte) : (s.bitTest m).y = s.y := rfl
@[simp] theorem State.bitTest_sp (m : Byte) : (s.bitTest m).sp = s.sp := rfl
@[simp] theorem State.bitTest_pc (m : Byte) : (s.bitTest m).pc = s.pc := rfl
@[simp] theorem State.bitTest_running (m : Byte) : (s.bitTest m).running = s.running := rfl
@[simp] theorem State.bitTest_haltCause (m : Byte) : (s.bitTest m).haltCause = s.haltCause := rfl
@[simp] theorem State.bitTest_pending (m : Byte) : (s.bitTest m).pending = s.pending := rfl
@[simp] theorem State.bitTest_ram (m : Byte) : (s.bitTest m).ram = s.ram := rfl
@[simp] theorem State.bitTest_ntRam (m : Byte) : (s.bitTest m).ntRam = s.ntRam := rfl
@[simp] theorem State.bitTest_palRam (m : Byte) : (s.bitTest m).palRam = s.palRam := rfl
@[simp] theorem State.bitTest_strobe (m : Byte) : (s.bitTest m).strobe = s.strobe := rfl
@[simp] theorem State.bitTest_index (m : Byte) : (s.bitTest m).index = s.index := rfl
@[simp] theorem State.bitTest_ppu (m : Byte) : (s.bitTest m).ppu = s.ppu := rfl
@[simp] theorem State.bitTest_cart (m : Byte) : (s.bitTest m).cart = s.cart := rfl
@[simp] theorem State.bitTest_faults (m : Byte) : (s.bitTest m).faults = s.faults := rfl
@[simp] theorem State.bitTest_loadDiag (m : Byte) : (s.bitTest m).loadDiag = s.loadDiag := rfl
@[simp] theorem State.bitTest_params (m : Byte) : (s.bitTest m).params = s.params := rfl
@[simp] theorem State.bitTest_draws (m : Byte) : (s.bitTest m).draws = s.draws := rfl
@[simp] theorem State.bitTest_cycles (m : Byte) : (s.bitTest m).cycles = s.cycles := rfl
@[simp] theorem State.bitTest_host (m : Byte) : (s.bitTest m).host = s.host := rfl
@[simp] theorem State.bitTest_quit (m : Byte) : (s.bitTest m).quit = s.quit := rfl

/-! ### State.record -/

@[simp] theorem State.record_a (f : FaultRecord) : (s.record f).a = s.a := rfl
@[simp] theorem State.record_x (f : FaultRecord) : (s.record f).x = s.x := rfl
@[simp] theorem State.record_y (f : FaultRecord) : (s.record f).y = s.y := rfl
@[simp] theorem State.record_sp (f : FaultRecord) : (s.record f).sp = s.sp := rfl
@[simp] theorem State.record_p (f : FaultRecord) : (s.record f).p = s.p := rfl
@[simp] theorem State.record_pc (f : FaultRecord) : (s.record f).pc = s.pc := rfl
@[simp] theorem State.record_running (f : FaultRecord) : (s.record f).running = s.running := rfl
@[simp] theorem State.record_haltCause (f : FaultRecord) : (s.record f).haltCause = s.haltCause := rfl
@[simp] theorem State.record_pending (f : FaultRecord) : (s.record f).pending = s.pending := rfl
@[simp] theorem State.record_ram (f : FaultRecord) : (s.record f).ram = s.ram := rfl
@[simp] theorem State.record_ntRam (f : FaultRecord) : (s.record f).ntRam = s.ntRam := rfl
@[simp] theorem State.record_palRam (f : FaultRecord) : (s.record f).palRam = s.palRam := rfl
@[simp] theorem State.record_strobe (f : FaultRecord) : (s.record f).strobe = s.strobe := rfl
@[simp] theorem State.record_index (f : FaultRecord) : (s.record f).index = s.index := rfl
@[simp] theorem State.record_ppu (f : FaultRecord) : (s.record f).ppu = s.ppu := rfl
@[simp] theorem State.record_cart (f : FaultRecord) : (s.record f).cart = s.cart := rfl
@[simp] theorem State.record_faults (f : FaultRecord) : (s.record f).faults = s.faults ++ [f] := rfl
@[simp] theorem State.record_loadDiag (f : FaultRecord) : (s.record f).loadDiag = s.loadDiag := rfl
@[simp] theorem State.record_params (f : FaultRecord) : (s.record f).params = s.params := rfl
@[simp] theorem State.record_draws (f : FaultRecord) : (s.record f).draws = s.draws := rfl
@[simp] theorem State.record_cycles (f : FaultRecord) : (s.record f).cycles = s.cycles := rfl
@[simp] theorem State.record_host (f : FaultRecord) : (s.record f).host = s.host := rfl
@[simp] theorem State.record_quit (f : FaultRecord) : (s.record f).quit = s.quit := rfl

/-! ### State.raiseNmi -/

@[simp] theorem State.raiseNmi_a : (s.raiseNmi).a = s.a := rfl
@[simp] theorem State.raiseNmi_x : (s.raiseNmi).x = s.x := rfl
@[simp] theorem State.raiseNmi_y : (s.raiseNmi).y = s.y := rfl
@[simp] theorem State.raiseNmi_sp : (s.raiseNmi).sp = s.sp := rfl
@[simp] theorem State.raiseNmi_p : (s.raiseNmi).p = s.p := rfl
@[simp] theorem State.raiseNmi_pc : (s.raiseNmi).pc = s.pc := rfl
@[simp] theorem State.raiseNmi_running : (s.raiseNmi).running = s.running := rfl
@[simp] theorem State.raiseNmi_haltCause : (s.raiseNmi).haltCause = s.haltCause := rfl
@[simp] theorem State.raiseNmi_pending : (s.raiseNmi).pending = some .nmi := rfl
@[simp] theorem State.raiseNmi_ram : (s.raiseNmi).ram = s.ram := rfl
@[simp] theorem State.raiseNmi_ntRam : (s.raiseNmi).ntRam = s.ntRam := rfl
@[simp] theorem State.raiseNmi_palRam : (s.raiseNmi).palRam = s.palRam := rfl
@[simp] theorem State.raiseNmi_strobe : (s.raiseNmi).strobe = s.strobe := rfl
@[simp] theorem State.raiseNmi_index : (s.raiseNmi).index = s.index := rfl
@[simp] theorem State.raiseNmi_ppu : (s.raiseNmi).ppu = s.ppu := rfl
@[simp] theorem State.raiseNmi_cart : (s.raiseNmi).cart = s.cart := rfl
@[simp] theorem State.raiseNmi_faults : (s.raiseNmi).faults = s.faults := rfl
@[simp] theorem State.raiseNmi_loadDiag : (s.raiseNmi).loadDiag = s.loadDiag := rfl
@[simp] theorem State.raiseNmi_params : (s.raiseNmi).params = s.params := rfl
@[simp] theorem State.raiseNmi_draws : (s.raiseNmi).draws = s.draws := rfl
@[simp] theorem State.raiseNmi_cycles : (s.raiseNmi).cycles = s.cycles := rfl
@[simp] theorem State.raiseNmi_host : (s.raiseNmi).host = s.host := rfl
@[simp] theorem State.raiseNmi_quit : (s.raiseNmi).quit = s.quit := rfl

/-! ### State.setCycles -/

@[simp] theorem State.setCycles_a (n : Nat) : (s.setCycles n).a = s.a := rfl
@[simp] theorem State.setCycles_x (n : Nat) : (s.setCycles n).x = s.x := rfl
@[simp] theorem State.setCycles_y (n : Nat) : (s.setCycles n).y = s.y := rfl
@[simp] theorem State.setCycles_sp (n : Nat) : (s.setCycles n).sp = s.sp := rfl
@[simp] theorem State.setCycles_p (n : Nat) : (s.setCycles n).p = s.p := rfl
@[simp] theorem State.setCycles_pc (n : Nat) : (s.setCycles n).pc = s.pc := rfl
@[simp] theorem State.setCycles_running (n : Nat) : (s.setCycles n).running = s.running := rfl
@[simp] theorem State.setCycles_haltCause (n : Nat) : (s.setCycles n).haltCause = s.haltCause := rfl
@[simp] theorem State.setCycles_pending (n : Nat) : (s.setCycles n).pending = s.pending := rfl
@[simp] theorem State.setCycles_ram (n : Nat) : (s.setCycles n).ram = s.ram := rfl
@[simp] theorem State.setCycles_ntRam (n : Nat) : (s.setCycles n).ntRam = s.ntRam := rfl
@[simp] theorem State.setCycles_palRam (n : Nat) : (s.setCycles n).palRam = s.palRam := rfl
@[simp] theorem State.setCycles_strobe (n : Nat) : (s.setCycles n).strobe = s.strobe := rfl
@[simp] theorem State.setCycles_index (n : Nat) : (s.setCycles n).index = s.index := rfl
@[simp] theorem State.setCycles_ppu (n : Nat) : (s.setCycles n).ppu = s.ppu := rfl
@[simp] theorem State.setCycles_cart (n : Nat) : (s.setCycles n).cart = s.cart := rfl
@[simp] theorem State.setCycles_faults (n : Nat) : (s.setCycles n).faults = s.faults := rfl
@[simp] theorem State.setCycles_loadDiag (n : Nat) : (s.setCycles n).loadDiag = s.loadDiag := rfl
@[simp] theorem State.setCycles_params (n : Nat) : (s.setCycles n).params = s.params := rfl
@[simp] theorem State.setCycles_draws (n : Nat) : (s.setCycles n).draws = s.draws := rfl
@[simp] theorem State.setCycles_cycles (n : Nat) : (s.setCycles n).cycles = n := rfl
@[simp] theorem State.setCycles_host (n : Nat) : (s.setCycles n).host = s.host := rfl
@[simp] theorem State.setCycles_quit (n : Nat) : (s.setCycles n).quit = s.quit := rfl

/-! ### State.start -/

@[simp] theorem State.start_a (i : Instr) : (s.start i).a = s.a := rfl
@[simp] theorem State.start_x (i : Instr) : (s.start i).x = s.x := rfl
@[simp] theorem State.start_y (i : Instr) : (s.start i).y = s.y := rfl
@[simp] theorem State.start_sp (i : Instr) : (s.start i).sp = s.sp := rfl
@[simp] theorem State.start_p (i : Instr) : (s.start i).p = s.p := rfl
@[simp] theorem State.start_pc (i : Instr) : (s.start i).pc = nextPc i s := rfl
@[simp] theorem State.start_running (i : Instr) : (s.start i).running = s.running := rfl
@[simp] theorem State.start_haltCause (i : Instr) : (s.start i).haltCause = s.haltCause := rfl
@[simp] theorem State.start_pending (i : Instr) : (s.start i).pending = s.pending := rfl
@[simp] theorem State.start_ram (i : Instr) : (s.start i).ram = s.ram := rfl
@[simp] theorem State.start_ntRam (i : Instr) : (s.start i).ntRam = s.ntRam := rfl
@[simp] theorem State.start_palRam (i : Instr) : (s.start i).palRam = s.palRam := rfl
@[simp] theorem State.start_strobe (i : Instr) : (s.start i).strobe = s.strobe := rfl
@[simp] theorem State.start_index (i : Instr) : (s.start i).index = s.index := rfl
@[simp] theorem State.start_ppu (i : Instr) : (s.start i).ppu = s.ppu := rfl
@[simp] theorem State.start_cart (i : Instr) : (s.start i).cart = s.cart := rfl
@[simp] theorem State.start_faults (i : Instr) : (s.start i).faults = s.faults := rfl
@[simp] theorem State.start_loadDiag (i : Instr) : (s.start i).loadDiag = s.loadDiag := rfl
@[simp] theorem State.start_params (i : Instr) : (s.start i).params = s.params := rfl
@[simp] theorem State.start_draws (i : Instr) : (s.start i).draws = s.draws := rfl
@[simp] theorem State.start_cycles (i : Instr) : (s.start i).cycles = s.cycles := rfl
@[simp] theorem State.start_host (i : Instr) : (s.start i).host = s.host := rfl
@[simp] theorem State.start_quit (i : Instr) : (s.start i).quit = s.quit := rfl

/-! ### State.oamPut -/

@[simp] theorem State.oamPut_a (i : Nat) (b : Byte) : (s.oamPut i b).a = s.a := rfl
@[simp] theorem State.oamPut_x (i : Nat) (b : Byte) : (s.oamPut i b).x = s.x := rfl
@[simp] theorem State.oamPut_y (i : Nat) (b : Byte) : (s.oamPut i b).y = s.y := rfl
@[simp] theorem State.oamPut_sp (i : Nat) (b : Byte) : (s.oamPut i b).sp = s.sp := rfl
@[simp] theorem State.oamPut_p (i : Nat) (b : Byte) : (s.oamPut i b).p = s.p := rfl
@[simp] theorem State.oamPut_pc (i : Nat) (b : Byte) : (s.oamPut i b).pc = s.pc := rfl
@[simp] theorem State.oamPut_running (i : Nat) (b : Byte) : (s.oamPut i b).running = s.running := rfl
@[simp] theorem State.oamPut_haltCause (i : Nat) (b : Byte) : (s.oamPut i b).haltCause = s.haltCause := rfl
@[simp] theorem State.oamPut_pending (i : Nat) (b : Byte) : (s.oamPut i b).pending = s.pending := rfl
@[simp] theorem State.oamPut_ram (i : Nat) (b : Byte) : (s.oamPut i b).ram = s.ram := rfl
@[simp] theorem State.oamPut_ntRam (i : Nat) (b : Byte) : (s.oamPut i b).ntRam = s.ntRam := rfl
@[simp] theorem State.oamPut_palRam (i : Nat) (b : Byte) : (s.oamPut i b).palRam = s.palRam := rfl
@[simp] theorem State.oamPut_strobe (i : Nat) (b : Byte) : (s.oamPut i b).strobe = s.strobe := rfl
@[simp] theorem State.oamPut_index (i : Nat) (b : Byte) : (s.oamPut i b).index = s.index := rfl
@[simp] theorem State.oamPut_cart (i : Nat) (b : Byte) : (s.oamPut i b).cart = s.cart := rfl
@[simp] theorem State.oamPut_faults (i : Nat) (b : Byte) : (s.oamPut i b).faults = s.faults := rfl
@[simp] theorem State.oamPut_loadDiag (i : Nat) (b : Byte) : (s.oamPut i b).loadDiag = s.loadDiag := rfl
@[simp] theorem State.oamPut_params (i : Nat) (b : Byte) : (s.oamPut i b).params = s.params := rfl
@[simp] theorem State.oamPut_draws (i : Nat) (b : Byte) : (s.oamPut i b).draws = s.draws := rfl
@[simp] theorem State.oamPut_cycles (i : Nat) (b : Byte) : (s.oamPut i b).cycles = s.cycles := rfl
@[simp] theorem State.oamPut_host (i : Nat) (b : Byte) : (s.oamPut i b).host = s.host := rfl
@[simp] theorem State.oamPut_quit (i : Nat) (b : Byte) : (s.oamPut i b).quit = s.quit := rfl

/-! ### The status byte after the cores -/

/-- AddCore's status byte (R155). -/
@[simp] theorem State.addCore_p (m : Byte) : (s.addCore m).p =
    Machine.setZN (addResult s.a m (s.flag .c)) (putFlag .v (addOverflow s.a m (s.flag .c))
      (putFlag .c (addCarry s.a m (s.flag .c)) s.p)) := rfl

/-- SubCore is AddCore of the one's complement (R156). -/
@[simp] theorem State.subCore_p (m : Byte) : (s.subCore m).p = (s.addCore (m ^^^ 0xFF)).p := rfl

/-- BIT's status byte (R208). -/
@[simp] theorem State.bitTest_p (m : Byte) : (s.bitTest m).p =
    putFlag .v (m.getLsbD 6) (putFlag .n (m.getLsbD 7) (putFlag .z ((s.a &&& m) == 0) s.p)) := rfl

@[simp] theorem State.oamPut_ppu (i : Nat) (b : Byte) : (s.oamPut i b).ppu =
    { s.ppu with oam := s.ppu.oam.write (s.ppu.oamAddr + BitVec.ofNat 8 i).toNat b } := rfl

/-! ### Flags read through an update -/

theorem State.flag_eq (f : Flag) : s.flag f = getFlag f s.p := rfl

/-- A shift core's result and the state it leaves (R158). -/
theorem State.shiftCore_eq (k : ShiftKind) (m : Byte) :
    s.shiftCore k m = (shiftResult k m (s.flag .c), s.setFlag .c (shiftCarry k m)) := rfl

/-! ### The memories at reset -/

/-- The empty memory is in canonical form, whatever its size. -/
@[simp] theorem Memory.nil_wf (n : Nat) : Memory.wf [] n = true := rfl

/-- No memory of State.reset lists a byte. -/
theorem State.reset_memories_empty : State.reset.ram = [] ∧ State.reset.ntRam = [] ∧ State.reset.palRam = [] ∧
    State.reset.ppu.oam = [] ∧ State.reset.cart.prgRam = [] ∧ State.reset.cart.prg = [] ∧ State.reset.cart.chr = [] :=
  ⟨rfl, rfl, rfl, rfl, rfl, rfl, rfl⟩

end Sys2Proof.Machine
end

