-- ==== Sys2Proof/Laws/Flags.lean ====
section
/-! SUPPORT. The status register: flags read after a flag is written, and what the flag computations come to in integers. -/

namespace Sys2Proof.Machine

/-- A flag just written reads as written. -/
@[simp] theorem getFlag_putFlag_same (f : Flag) (b : Bool) (p : Byte) : getFlag f (putFlag f b p) = b := by
  cases f <;> revert b p <;> decide +kernel

/-- Writing one flag leaves every other flag. -/
@[simp] theorem getFlag_putFlag_other {f g : Flag} (h : f ≠ g) (b : Bool) (p : Byte) :
    getFlag g (putFlag f b p) = getFlag g p := by
  cases f <;> cases g <;> first | exact absurd rfl h | (revert b p; decide +kernel)

/-- Writing a flag leaves bits 4 and 5 (R23). -/
theorem putFlag_keeps_b (f : Flag) (b : Bool) (p : Byte) : putFlag f b p &&& 0x30 = p &&& 0x30 := by
  cases f <;> revert b p <;> decide +kernel

/-- A status byte is its flags and its bits 4 and 5 (R23). -/
theorem status_ext {p q : Byte} (h : ∀ f, getFlag f p = getFlag f q) (hb : p &&& 0x30 = q &&& 0x30) : p = q := by
  have hbit : ∀ i, i = 4 ∨ i = 5 → p.getLsbD i = q.getLsbD i := by
    intro i hi
    have h2 := congrArg (fun b : Byte => b.getLsbD i) hb
    rcases hi with rfl | rfl <;> simpa using h2
  apply BitVec.eq_of_getLsbD_eq
  intro i hi
  rcases (by omega : i = 0 ∨ i = 1 ∨ i = 2 ∨ i = 3 ∨ i = 4 ∨ i = 5 ∨ i = 6 ∨ i = 7) with
    rfl | rfl | rfl | rfl | rfl | rfl | rfl | rfl
  · exact h .c
  · exact h .z
  · exact h .i
  · exact h .d
  · exact hbit 4 (Or.inl rfl)
  · exact hbit 5 (Or.inr rfl)
  · exact h .v
  · exact h .n

@[simp] theorem getFlag_setZN_z (r p : Byte) : getFlag .z (setZN r p) = (r == 0) := by
  simp [setZN]

@[simp] theorem getFlag_setZN_n (r p : Byte) : getFlag .n (setZN r p) = r.getLsbD 7 := by
  simp [setZN]

/-- SetZN leaves C, I, D and V (R11). -/
@[simp] theorem getFlag_setZN_other {f : Flag} (hz : f ≠ .z) (hn : f ≠ .n) (r p : Byte) :
    getFlag f (setZN r p) = getFlag f p := by
  simp [setZN, Ne.symm hz, Ne.symm hn]

theorem setZN_keeps_b (r p : Byte) : setZN r p &&& 0x30 = p &&& 0x30 := by
  unfold setZN
  rw [putFlag_keeps_b, putFlag_keeps_b]

/-- Every flag of P as a byte written to it gives it (R23). -/
@[simp] theorem getFlag_statusFromByte (f : Flag) (b : Byte) : getFlag f (statusFromByte b) = getFlag f b := by
  cases f <;> revert b <;> decide +kernel

theorem statusFromByte_b (b : Byte) : statusFromByte b &&& 0x30 = 0x20 := by
  revert b; decide +kernel

/-! ### AddCore in integers -/

theorem addSum_lt (a m : Byte) (c : Bool) : addSum a m c < 512 := by
  have := a.isLt
  have := m.isLt
  unfold addSum bit
  split <;> omega

/-- The sum is the carry and the 8-bit result. -/
theorem addSum_eq (a m : Byte) (c : Bool) :
    addSum a m c = 256 * bit (addCarry a m c) + (addResult a m c).toNat := by
  have h := addSum_lt a m c
  have hc : addCarry a m c = decide (256 ≤ addSum a m c) := by
    unfold addCarry
    rw [Nat.testBit_eq_decide_div_mod_eq]
    congr 1
    apply propext
    constructor <;> intro _ <;> omega
  rw [hc]
  simp only [addResult, BitVec.toNat_ofNat, bit]
  by_cases h2 : 256 ≤ addSum a m c
  · simp [h2]; omega
  · simp [h2]; omega

/-- The carry is set exactly when the sum leaves 8 bits. -/
theorem addCarry_eq (a m : Byte) (c : Bool) : addCarry a m c = decide (256 ≤ addSum a m c) := by
  have h := addSum_lt a m c
  unfold addCarry
  rw [Nat.testBit_eq_decide_div_mod_eq]
  congr 1
  apply propext
  constructor <;> intro _ <;> omega

/-! ### Shift cores in integers -/

/-- The shift left and the carry out are twice the byte and the bit that comes in. -/
theorem shiftLeft_eq (m : Byte) (c : Bool) :
    256 * bit (shiftCarry .rol m) + (shiftResult .rol m c).toNat = 2 * m.toNat + bit c := by
  revert c m; decide +kernel

/-- The shift right and the carry out, the other way round. -/
theorem shiftRight_eq (m : Byte) (c : Bool) :
    2 * (shiftResult .ror m c).toNat + bit (shiftCarry .ror m) = m.toNat + 256 * bit c := by
  revert c m; decide +kernel

theorem shiftResult_asl (m : Byte) (c : Bool) : shiftResult .asl m c = shiftResult .rol m false := by
  revert c m; decide +kernel

theorem shiftResult_lsr (m : Byte) (c : Bool) : shiftResult .lsr m c = shiftResult .ror m false := by
  revert c m; decide +kernel

end Sys2Proof.Machine
end

