-- ==== Sys2Proof/Laws/Memory.lean ====
section
/-! SUPPORT. The laws of finite maps in canonical form: read after write, and that every operation keeps the form. -/

namespace Sys2Proof.Machine

variable {α : Type} [DecidableEq α] {d : α}

/-! ### Keys below every entry -/

theorem Sparse.wfFrom_mono {n lo lo' : Nat} {m : Sparse α} (h : Sparse.wfFrom d n lo m = true) (hlo : lo' ≤ lo) :
    Sparse.wfFrom d n lo' m = true := by
  cases m with
  | nil => rfl
  | cons e rest =>
    simp only [Sparse.wfFrom, Bool.and_eq_true, decide_eq_true_eq] at h ⊢
    exact ⟨⟨⟨by omega, h.1.1.2⟩, h.1.2⟩, h.2⟩

/-- A key below every entry reads as the default. -/
theorem Sparse.get_of_lt {n lo k : Nat} {m : Sparse α} (h : Sparse.wfFrom d n lo m = true) (hk : k < lo) :
    Sparse.get d m k = d := by
  induction m generalizing lo with
  | nil => rfl
  | cons e rest ih =>
    simp only [Sparse.wfFrom, Bool.and_eq_true, decide_eq_true_eq] at h
    rw [Sparse.get, if_neg (by omega)]
    exact ih h.2 (by omega)

/-- A key outside the map's range reads as the default. -/
theorem Sparse.get_of_ge {n lo k : Nat} {m : Sparse α} (h : Sparse.wfFrom d n lo m = true) (hk : n ≤ k) :
    Sparse.get d m k = d := by
  induction m generalizing lo with
  | nil => rfl
  | cons e rest ih =>
    simp only [Sparse.wfFrom, Bool.and_eq_true, decide_eq_true_eq] at h
    rw [Sparse.get, if_neg (by omega)]
    exact ih h.2

/-! ### Read after write -/

/-- A write leaves every other key alone; no canonical form is needed. -/
theorem Sparse.get_set_other {m : Sparse α} {k k' : Nat} {v : α} (h : k ≠ k') :
    Sparse.get d (Sparse.set d m k v) k' = Sparse.get d m k' := by
  induction m with
  | nil => by_cases hv : v = d <;> simp [Sparse.set, Sparse.get, hv, h]
  | cons e rest ih =>
    obtain ⟨e1, e2⟩ := e
    unfold Sparse.set
    split
    · split <;> simp [Sparse.get, h]
    · split
      · rename_i h2
        subst h2
        split <;> simp [Sparse.get, h]
      · by_cases h4 : e1 = k' <;> simp [Sparse.get, h4, ih]

/-- A read after a write of the same key gives the value written. -/
theorem Sparse.get_set_same {n lo : Nat} {m : Sparse α} {k : Nat} {v : α} (h : Sparse.wfFrom d n lo m = true) :
    Sparse.get d (Sparse.set d m k v) k = v := by
  induction m generalizing lo with
  | nil => by_cases hv : v = d <;> simp [Sparse.set, Sparse.get, hv]
  | cons e rest ih =>
    obtain ⟨e1, e2⟩ := e
    simp only [Sparse.wfFrom, Bool.and_eq_true, decide_eq_true_eq] at h
    unfold Sparse.set
    split
    · rename_i h1
      split
      · rename_i hv
        subst hv
        rw [Sparse.get, if_neg (by omega)]
        exact Sparse.get_of_lt h.2 (by omega)
      · simp [Sparse.get]
    · split
      · rename_i h2
        subst h2
        split
        · rename_i hv
          subst hv
          exact Sparse.get_of_lt h.2 (by omega)
        · simp [Sparse.get]
      · rename_i h2
        rw [Sparse.get, if_neg (by omega)]
        exact ih h.2

/-! ### The canonical form is kept -/

theorem Sparse.set_wfFrom {n lo k : Nat} {m : Sparse α} {v : α} (h : Sparse.wfFrom d n lo m = true) (hk : k < n)
    (hlo : lo ≤ k) : Sparse.wfFrom d n lo (Sparse.set d m k v) = true := by
  induction m generalizing lo with
  | nil => by_cases hv : v = d <;> simp [Sparse.set, Sparse.wfFrom, hv, hk, hlo]
  | cons e rest ih =>
    obtain ⟨e1, e2⟩ := e
    have hc := h
    simp only [Sparse.wfFrom, Bool.and_eq_true, decide_eq_true_eq] at h
    unfold Sparse.set
    split
    · rename_i h1
      split
      · exact hc
      · rename_i hv
        simp only [Sparse.wfFrom, Bool.and_eq_true, decide_eq_true_eq]
        exact ⟨⟨⟨hlo, hk⟩, hv⟩, ⟨⟨by omega, h.1.1.2⟩, h.1.2⟩, h.2⟩
    · split
      · rename_i h2
        subst h2
        split
        · exact Sparse.wfFrom_mono h.2 (by omega)
        · rename_i hv
          simp only [Sparse.wfFrom, Bool.and_eq_true, decide_eq_true_eq]
          exact ⟨⟨⟨hlo, hk⟩, hv⟩, h.2⟩
      · rename_i h2
        simp only [Sparse.wfFrom, Bool.and_eq_true, decide_eq_true_eq]
        exact ⟨⟨⟨h.1.1.1, h.1.1.2⟩, h.1.2⟩, ih h.2 (by omega)⟩

/-- A write inside the range keeps the canonical form. -/
theorem Sparse.set_wf {n k : Nat} {m : Sparse α} {v : α} (h : Sparse.wf d n m = true) (hk : k < n) :
    Sparse.wf d n (Sparse.set d m k v) = true :=
  Sparse.set_wfFrom h hk (Nat.zero_le k)

/-- Two maps in canonical form that read alike are the same data. -/
theorem Sparse.ext_of_wf {n lo : Nat} {m m' : Sparse α} (h : Sparse.wfFrom d n lo m = true)
    (h' : Sparse.wfFrom d n lo m' = true) (he : ∀ k, Sparse.get d m k = Sparse.get d m' k) : m = m' := by
  induction m generalizing lo m' with
  | nil =>
    cases m' with
    | nil => rfl
    | cons e rest =>
      simp only [Sparse.wfFrom, Bool.and_eq_true, decide_eq_true_eq] at h'
      have := he e.1
      simp only [Sparse.get, if_true] at this
      exact absurd this.symm h'.1.2
  | cons e rest ih =>
    simp only [Sparse.wfFrom, Bool.and_eq_true, decide_eq_true_eq] at h
    cases m' with
    | nil =>
      have := he e.1
      simp only [Sparse.get, if_true] at this
      exact absurd this h.1.2
    | cons e' rest' =>
      simp only [Sparse.wfFrom, Bool.and_eq_true, decide_eq_true_eq] at h'
      have hkey : e.1 = e'.1 := by
        have h1 := he e.1
        have h2 := he e'.1
        simp only [Sparse.get, if_true] at h1 h2
        by_contra hne
        rcases Nat.lt_or_gt_of_ne hne with hlt | hgt
        · rw [if_neg (by omega), Sparse.get_of_lt h'.2 (by omega)] at h1
          exact h.1.2 h1
        · rw [if_neg (by omega), Sparse.get_of_lt h.2 (by omega)] at h2
          exact h'.1.2 h2.symm
      have hval : e.2 = e'.2 := by
        have h1 := he e.1
        simpa [Sparse.get, hkey] using h1
      have hrest : rest = rest' := by
        refine ih h.2 (by rw [hkey]; exact h'.2) fun k => ?_
        by_cases hk : e.1 = k
        · rw [Sparse.get_of_lt h.2 (by omega), Sparse.get_of_lt h'.2 (by omega)]
        · have := he k
          simpa [Sparse.get, hk, hkey ▸ hk] using this
      obtain ⟨e1, e2⟩ := e
      obtain ⟨e1', e2'⟩ := e'
      simp_all

/-! ### Memories -/

/-- A read after a write of the same address gives the byte written. -/
theorem Memory.read_write_same {n : Nat} {m : Memory} {a : Nat} {v : Byte} (h : m.wf n = true) :
    (m.write a v).read a = v := Sparse.get_set_same h

/-- A write leaves every other address alone. -/
theorem Memory.read_write_other {m : Memory} {a a' : Nat} {v : Byte} (h : a ≠ a') :
    (m.write a v).read a' = m.read a' := Sparse.get_set_other h

/-- A write inside the range keeps the canonical form. -/
theorem Memory.write_wf {n : Nat} {m : Memory} {a : Nat} {v : Byte} (h : m.wf n = true) (ha : a < n) :
    (m.write a v).wf n = true := Sparse.set_wf h ha

/-- Equal reads make equal memories. -/
theorem Memory.ext_of_wf {n : Nat} {m m' : Memory} (h : m.wf n = true) (h' : m'.wf n = true)
    (he : ∀ a, m.read a = m'.read a) : m = m' := Sparse.ext_of_wf h h' he

theorem Memory.ofBytes_wfFrom {l : List Byte} {a n : Nat} (h : a + l.length ≤ n) :
    Sparse.wfFrom Memory.unlisted n a (Memory.ofBytes a l) = true := by
  induction l generalizing a with
  | nil => rfl
  | cons v rest ih =>
    simp only [List.length_cons] at h
    unfold Memory.ofBytes
    split
    · exact Sparse.wfFrom_mono (ih (by omega)) (by omega)
    · rename_i hv
      simp only [Sparse.wfFrom, Bool.and_eq_true, decide_eq_true_eq]
      exact ⟨⟨⟨le_refl a, by omega⟩, hv⟩, ih (by omega)⟩

/-- A memory built from bytes is in canonical form. -/
theorem Memory.ofBytes_wf {l : List Byte} {n : Nat} (h : l.length ≤ n) : (Memory.ofBytes 0 l).wf n = true :=
  Memory.ofBytes_wfFrom (by omega)

/-- Writing bytes one after the other keeps the canonical form. -/
theorem Memory.writeBytes_wf {l : List Byte} {m : Memory} {a n : Nat} (h : m.wf n = true) (hl : a + l.length ≤ n) :
    (m.writeBytes a l).wf n = true := by
  induction l generalizing m a with
  | nil => exact h
  | cons v rest ih =>
    simp only [List.length_cons] at hl
    exact ih (Memory.write_wf h (by omega)) (by omega)

end Sys2Proof.Machine
end

