-- ==== Sys2Proof/Laws/Ops.lean ====
section
/-! SUPPORT. What the bus router and the stack operations do, said once: later proofs cite these and never unfold the
operations. -/

namespace Sys2Proof.Machine

/-! ### Going on -/

@[simp] theorem Bus.bind_ok {α β : Type} (v : α) (s : State) (k : α → State → Bus β) : (Bus.ok v s).bind k = k v s := rfl
@[simp] theorem Bus.bind_stop {α β : Type} (s : State) (k : α → State → Bus β) : (Bus.stop s).bind k = .stop s := rfl
@[simp] theorem Bus.state_ok {α : Type} (v : α) (s : State) : (Bus.ok v s).state = s := rfl
@[simp] theorem Bus.state_stop {α : Type} (s : State) : (Bus.stop s : Bus α).state = s := rfl
@[simp] theorem Bus.ofPair_eq {α : Type} (r : α × State) : Bus.ofPair r = .ok r.1 r.2 := rfl

/-- A result with its state changed by `f`. -/
def Bus.mapState {α : Type} (f : State → State) : Bus α → Bus α
  | .ok v s => .ok v (f s)
  | .stop s => .stop (f s)

@[simp] theorem Bus.mapState_ok {α : Type} (f : State → State) (v : α) (s : State) :
    (Bus.ok v s).mapState f = .ok v (f s) := rfl
@[simp] theorem Bus.mapState_stop {α : Type} (f : State → State) (s : State) :
    (Bus.stop s : Bus α).mapState f = .stop (f s) := rfl

/-! ### Reads -/

/-- A read of internal RAM changes nothing (R61). -/
theorem cpuRead_ram {a : Word} (h : a.toNat ≤ 0x1FFF) (s : State) :
    cpuRead a s = .ok (s.ram.read (a.toNat % 0x800)) s := by
  simp [cpuRead, h]

/-- A read of a PPU port (R62). -/
theorem cpuRead_port {a : Word} (h : 0x2000 ≤ a.toNat) (h2 : a.toNat ≤ 0x3FFF) (s : State) :
    cpuRead a s = .ok (ppuPortRead (a.toNat % 8) s).1 (ppuPortRead (a.toNat % 8) s).2 := by
  rw [cpuRead, if_neg (by omega), if_pos h2, Bus.ofPair_eq]

/-- A read of cartridge space changes nothing (R65). -/
theorem cpuRead_cart {a : Word} (h : 0x6000 ≤ a.toNat) (s : State) : cpuRead a s = .ok (s.cart.cpuRead a) s := by
  have h3 : a ≠ 0x4016 := by rintro rfl; simp at h
  rw [cpuRead, if_neg (by omega), if_neg (by omega), if_neg h3, if_pos h]

/-- A byte that RAM, save RAM or ROM holds is what a read gives, and the read changes nothing (R67). -/
theorem cpuRead_of_byteAt {a : Word} {v : Byte} {s : State} (h : byteAt a s = some v) : cpuRead a s = .ok v s := by
  unfold byteAt at h
  split at h
  · rename_i h1; rw [cpuRead_ram h1]; simpa using h
  · split at h
    · rename_i h2; rw [cpuRead_cart h2]; simpa using h
    · exact absurd h (by simp)

/-- An address in no region is not readable, and the other way round (R66). -/
theorem readable_eq_false_iff (a : Word) :
    readable a = false ↔ 0x4000 ≤ a.toNat ∧ a.toNat ≤ 0x5FFF ∧ a ≠ 0x4016 := by
  simp only [readable, Bool.or_eq_false_iff, decide_eq_false_iff_not, beq_eq_false_iff_ne, ne_eq]
  constructor
  · rintro ⟨⟨h1, h2⟩, h3⟩
    exact ⟨by omega, by omega, h2⟩
  · rintro ⟨h1, h2, h3⟩
    exact ⟨⟨by omega, h3⟩, by omega⟩

/-- A read of an address in no region (R66). -/
theorem cpuRead_illegal {a : Word} (h : readable a = false) (s : State) : cpuRead a s = illegalRead a s := by
  obtain ⟨h1, h2, h3⟩ := (readable_eq_false_iff a).1 h
  rw [cpuRead, if_neg (by omega), if_neg (by omega), if_neg h3, if_neg (by omega)]

/-- A read goes on unless the address is in no region and the policy is halt (R400). -/
theorem cpuRead_answers {a : Word} {s : State} (h : readable a = true ∨ s.params.busFaultPolicy = .recordAndContinue) :
    ∃ v t, cpuRead a s = .ok v t := by
  by_cases hr : readable a = true
  · unfold cpuRead
    split
    · exact ⟨_, _, rfl⟩
    split
    · exact ⟨_, _, rfl⟩
    split
    · exact ⟨_, _, rfl⟩
    split
    · exact ⟨_, _, rfl⟩
    rename_i h1 h2 h3 h4
    exfalso
    simp only [readable, Bool.or_eq_true, decide_eq_true_eq, beq_iff_eq] at hr
    rcases hr with (hr | hr) | hr
    · exact h2 hr
    · exact h3 hr
    · exact h4 hr
  · rw [cpuRead_illegal (by simpa using hr)]
    have hp : s.params.busFaultPolicy = .recordAndContinue := by tauto
    unfold illegalRead
    rw [hp]
    exact ⟨_, _, rfl⟩

/-- A read stops only at an address in no region under the halt policy, and then only the record is new (R400). -/
theorem cpuRead_stop {a : Word} {s t : State} (h : cpuRead a s = .stop t) :
    readable a = false ∧ s.params.busFaultPolicy = .halt ∧ t = s.record (.busFault a .read) := by
  have hr : readable a = false := by
    by_contra hc
    obtain ⟨v, u, hu⟩ := cpuRead_answers (a := a) (s := s) (Or.inl (by simpa using hc))
    rw [hu] at h; exact absurd h (by simp)
  rw [cpuRead_illegal hr] at h
  unfold illegalRead at h
  split at h
  · exact absurd h (by simp)
  · rename_i hp
    exact ⟨hr, hp, by simpa using h.symm⟩

/-- All a read can change: the PPU's port state, the controller index, the draw counter and the fault log (R67). -/
theorem cpuRead_changes (a : Word) (s : State) : ∃ q i n f,
    (cpuRead a s).state = { s with ppu := q, index := i, draws := n, faults := s.faults ++ f } := by
  unfold cpuRead
  split
  · exact ⟨s.ppu, s.index, s.draws, [], by simp⟩
  split
  · unfold ppuPortRead
    split
    · exact ⟨_, s.index, s.draws + 1, [], by simp [statusRead, State.setPpu, State.nextDraw]; rfl⟩
    · exact ⟨s.ppu, s.index, s.draws, [], by simp⟩
    · unfold dataRead
      dsimp only
      split <;> exact ⟨_, s.index, s.draws, [], by simp [State.setPpu]; rfl⟩
    · exact ⟨s.ppu, s.index, s.draws + 1, [], by simp [State.nextDraw]⟩
  split
  · exact ⟨s.ppu, _, s.draws + 1, [], by simp [controllerRead, State.nextDraw]; rfl⟩
  split
  · exact ⟨s.ppu, s.index, s.draws, [], by simp⟩
  unfold illegalRead
  split
  · exact ⟨s.ppu, s.index, s.draws + 1, [.busFault a .read], by simp [State.record, State.nextDraw]⟩
  · exact ⟨s.ppu, s.index, s.draws, [.busFault a .read], by simp [State.record]⟩

/-- A read does not look at the registers of the CPU, so it commutes with a change of them. -/
theorem cpuRead_registers (a : Word) (s : State) (a' x' y' sp' p' : Byte) (pc' : Word) (c' : Nat) :
    cpuRead a { s with a := a', x := x', y := y', sp := sp', p := p', pc := pc', cycles := c' } =
      (cpuRead a s).mapState
        fun t => { t with a := a', x := x', y := y', sp := sp', p := p', pc := pc', cycles := c' } := by
  unfold cpuRead
  split
  · rfl
  split
  · unfold ppuPortRead
    split
    · rfl
    · rfl
    · unfold dataRead
      dsimp only
      split <;> rfl
    · rfl
  split
  · rfl
  split
  · rfl
  unfold illegalRead
  dsimp only
  split <;> rfl

/-- A read of vectors, ROM and save RAM two bytes wide (R70). -/
theorem readWord_cart {a : Word} (h : 0x6000 ≤ a.toNat) (h2 : 0x6000 ≤ (a + 1).toNat) (s : State) :
    readWord a s = .ok (mkWord (s.cart.cpuRead a) (s.cart.cpuRead (a + 1))) s := by
  rw [readWord, cpuRead_cart h, Bus.bind_ok, cpuRead_cart h2, Bus.bind_ok]

theorem zext_toNat (b : Byte) : (zext b).toNat = b.toNat := by
  have := b.isLt
  simp only [zext, BitVec.toNat_setWidth]
  omega

/-- `ReadWordBug` of a pointer in page 0 reads RAM, and wraps in it (R145). -/
theorem readWordBug_zp (b : Byte) (s : State) :
    readWordBug (zext b) s = .ok (mkWord (s.ram.read b.toNat) (s.ram.read (b + 1).toNat)) s := by
  have h1 : (zext b).toNat = b.toNat := zext_toNat b
  have h2 : samePageNext (zext b) = zext (b + 1) := by
    revert b; decide +kernel
  have h3 : (zext (b + 1)).toNat = (b + 1).toNat := zext_toNat _
  have hb := b.isLt
  have hb1 := (b + 1).isLt
  rw [readWordBug, cpuRead_ram (by omega), Bus.bind_ok, h2, cpuRead_ram (by omega), Bus.bind_ok, h1, h3]
  rw [Nat.mod_eq_of_lt (by omega), Nat.mod_eq_of_lt (by omega)]

/-! ### The stack -/

theorem stackAddr_toNat (b : Byte) : (stackAddr b).toNat = 0x100 + b.toNat := by
  revert b; decide +kernel

/-- A push writes one byte of page 1 of RAM and decrements SP (R73). -/
theorem push_eq (v : Byte) (s : State) :
    push v s = .ok () { s with ram := s.ram.write (0x100 + s.sp.toNat) v, sp := s.sp - 1 } := by
  have h := stackAddr_toNat s.sp
  have hb := s.sp.isLt
  simp only [push, cpuWrite, h, show 0x100 + s.sp.toNat ≤ 0x1FFF by omega, if_true, Bus.bind_ok]
  rw [Nat.mod_eq_of_lt (by omega)]

/-- A pull increments SP and reads one byte of page 1 of RAM (R74). -/
theorem pop_eq (s : State) : pop s = .ok (s.ram.read (0x100 + (s.sp + 1).toNat)) { s with sp := s.sp + 1 } := by
  have h := stackAddr_toNat (s.sp + 1)
  have hb := (s.sp + 1).isLt
  rw [pop, cpuRead_ram (by omega), h, Nat.mod_eq_of_lt (by omega)]

/-- High byte first (R75). -/
theorem push16_eq (v : Word) (s : State) :
    push16 v s = .ok () { s with
      ram := (s.ram.write (0x100 + s.sp.toNat) (hiByte v)).write (0x100 + (s.sp - 1).toNat) (loByte v)
      sp := s.sp - 2 } := by
  simp only [push16, push_eq, Bus.bind_ok]
  congr 2
  bv_omega

/-- Low byte first (R76). -/
theorem pop16_eq (s : State) :
    pop16 s = .ok (mkWord (s.ram.read (0x100 + (s.sp + 1).toNat)) (s.ram.read (0x100 + (s.sp + 2).toNat)))
      { s with sp := s.sp + 2 } := by
  have h : s.sp + 1 + 1 = s.sp + 2 := by bv_omega
  simp only [pop16, pop_eq, Bus.bind_ok, h]

/-- RAM with the three bytes of an entry pushed from `sp` on. -/
def entryRam (m : Memory) (sp : Byte) (returnTo : Word) (status : Byte) : Memory :=
  ((m.write (0x100 + sp.toNat) (hiByte returnTo)).write (0x100 + (sp - 1).toNat) (loByte returnTo)).write
    (0x100 + (sp - 2).toNat) status

/-- Entry to a handler through a vector in cartridge space: it always goes on (R253, R402). -/
theorem enterHandler_eq (returnTo : Word) (status : Byte) {vector : Word} (h : 0x6000 ≤ vector.toNat)
    (h2 : 0x6000 ≤ (vector + 1).toNat) (s : State) :
    enterHandler returnTo status vector s = .ok () { s with
      ram := entryRam s.ram s.sp returnTo status
      sp := s.sp - 3
      p := putFlag .i true s.p
      pc := mkWord (s.cart.cpuRead vector) (s.cart.cpuRead (vector + 1)) } := by
  have h3 : s.sp - 2 - 1 = s.sp - 3 := by bv_omega
  simp only [enterHandler, push16_eq, push_eq, Bus.bind_ok, readWord_cart h h2, State.setFlag, h3, entryRam]

/-- Interrupt service always goes on (R402). -/
theorem serviceInterrupt_eq (k : Interrupt) (s : State) :
    serviceInterrupt k s = .ok () { s with
      ram := entryRam s.ram s.sp s.pc (statusPushedByInterrupt s.p)
      sp := s.sp - 3
      p := putFlag .i true s.p
      pc := mkWord (s.cart.cpuRead k.vector) (s.cart.cpuRead (k.vector + 1))
      pending := none } := by
  cases k <;> rw [serviceInterrupt, enterHandler_eq _ _ (by decide) (by decide)] <;> rfl

/-- The return from a handler always goes on (R252). -/
theorem returnFromInterrupt_eq (s : State) :
    returnFromInterrupt s = .ok () { s with
      p := statusFromByte (s.ram.read (0x100 + (s.sp + 1).toNat))
      pc := mkWord (s.ram.read (0x100 + (s.sp + 2).toNat)) (s.ram.read (0x100 + (s.sp + 3).toNat))
      sp := s.sp + 3 } := by
  have h1 : s.sp + 1 + 1 = s.sp + 2 := by bv_omega
  have h2 : s.sp + 1 + 2 = s.sp + 3 := by bv_omega
  simp only [returnFromInterrupt, pop_eq, pop16_eq, Bus.bind_ok, h1, h2]

/-! ### Writes -/

/-- A write to internal RAM (R61). -/
theorem cpuWrite_ram {a : Word} (h : a.toNat ≤ 0x1FFF) (d : Byte) (s : State) :
    cpuWrite a d s = .ok () { s with ram := s.ram.write (a.toNat % 0x800) d } := by
  simp [cpuWrite, h]

/-- A write to a PPU port (R62). -/
theorem cpuWrite_port {a : Word} (h : 0x2000 ≤ a.toNat) (h2 : a.toNat ≤ 0x3FFF) (d : Byte) (s : State) :
    cpuWrite a d s = .ok () (ppuPortWrite (a.toNat % 8) d s) := by
  rw [cpuWrite, if_neg (by omega), if_pos h2]

/-- A write to cartridge space (R65). -/
theorem cpuWrite_cart {a : Word} (h : 0x6000 ≤ a.toNat) (d : Byte) (s : State) :
    cpuWrite a d s = .ok () { s with cart := s.cart.cpuWrite a d } := by
  have h3 : a ≠ 0x4014 := by rintro rfl; simp at h
  have h4 : a ≠ 0x4016 := by rintro rfl; simp at h
  rw [cpuWrite, if_neg (by omega), if_neg (by omega), if_neg h3, if_neg h4, if_pos h]

/-- A write to an address in no region (R66). -/
theorem cpuWrite_illegal {a : Word} (h : writable a = false) (d : Byte) (s : State) :
    cpuWrite a d s = illegalWrite a s := by
  simp only [writable, Bool.or_eq_false_iff, beq_eq_false_iff_ne] at h
  obtain ⟨hr, h5⟩ := h
  obtain ⟨h1, h2, h3⟩ := (readable_eq_false_iff a).1 hr
  rw [cpuWrite, if_neg (by omega), if_neg (by omega), if_neg h5, if_neg h3, if_neg (by omega)]

end Sys2Proof.Machine
end

