-- ==== Sys2Proof/Laws/Operands.lean ====
section
/-! SUPPORT. GetAddress, the operand helpers and the shapes of the memory instructions, each said once. -/

namespace Sys2Proof.Machine

/-! ### GetAddress -/

/-- GetAddress always goes on, and changes nothing: its pointers are in page 0 of RAM (R142 to R146). -/
theorem effAddr_eq (m : AddrMode) (s : State) : effAddr m s = .ok (addressed m s) s := by
  cases m <;> simp [effAddr, addressed, readWordBug_zp]

@[simp] theorem addressed_zp (b : Byte) (s : State) : addressed (.zp b) s = ⟨zext b, false⟩ := rfl
@[simp] theorem addressed_zpX (b : Byte) (s : State) : addressed (.zpX b) s = ⟨zext (b + s.x), false⟩ := rfl
@[simp] theorem addressed_zpY (b : Byte) (s : State) : addressed (.zpY b) s = ⟨zext (b + s.y), false⟩ := rfl
@[simp] theorem addressed_abs (w : Word) (s : State) : addressed (.abs w) s = ⟨w, false⟩ := rfl
@[simp] theorem addressed_absX (w : Word) (s : State) : addressed (.absX w) s = indexed w s.x := rfl
@[simp] theorem addressed_absY (w : Word) (s : State) : addressed (.absY w) s = indexed w s.y := rfl

@[simp] theorem addressed_indX (b : Byte) (s : State) :
    addressed (.indX b) s = ⟨mkWord (s.ram.read (b + s.x).toNat) (s.ram.read (b + s.x + 1).toNat), false⟩ := by
  simp [addressed, effAddr, readWordBug_zp]

@[simp] theorem addressed_indY (b : Byte) (s : State) :
    addressed (.indY b) s = indexed (mkWord (s.ram.read b.toNat) (s.ram.read (b + 1).toNat)) s.y := by
  simp [addressed, effAddr, readWordBug_zp]

/-- The address depends on X, Y and RAM alone. -/
theorem addressed_congr {m : AddrMode} {s t : State} (hx : t.x = s.x) (hy : t.y = s.y) (hr : t.ram = s.ram) :
    addressed m t = addressed m s := by
  cases m <;> simp [hx, hy, hr]

/-! ### Accesses after the pc has been written -/

/-- A read does not look at the pc. -/
theorem cpuRead_pc (a : Word) (w : Word) (s : State) :
    cpuRead a { s with pc := w } = (cpuRead a s).mapState fun t => { t with pc := w } := by
  unfold cpuRead
  split
  · rfl
  split
  · unfold ppuPortRead
    split
    · rfl
    · rfl
    · unfold dataRead
      dsimp only
      split <;> rfl
    · rfl
  split
  · rfl
  split
  · rfl
  unfold illegalRead
  dsimp only
  split <;> rfl

theorem Bus.bind_mapState {α β : Type} {r : Bus α} {f : State → State} {k k' : α → State → Bus β}
    (hk : ∀ v s, k v (f s) = (k' v s).mapState f) : (r.mapState f).bind k = (r.bind k').mapState f := by
  cases r with
  | ok v s => exact hk v s
  | stop s => rfl

/-- The OAM-DMA transfer does not look at the pc. -/
theorem oamDmaFrom_pc (d : Byte) (n i : Nat) (w : Word) (s : State) :
    oamDmaFrom d n i { s with pc := w } = (oamDmaFrom d n i s).mapState fun t => { t with pc := w } := by
  induction n generalizing i s with
  | zero => rfl
  | succ n ih =>
    rw [oamDmaFrom, oamDmaFrom, cpuRead_pc]
    exact Bus.bind_mapState fun b t => ih (i + 1) (t.oamPut i b)

/-- A write does not look at the pc. -/
theorem cpuWrite_pc (a : Word) (d : Byte) (w : Word) (s : State) :
    cpuWrite a d { s with pc := w } = (cpuWrite a d s).mapState fun t => { t with pc := w } := by
  unfold cpuWrite
  split
  · rfl
  split
  · unfold ppuPortWrite
    split
    · rfl
    · rfl
    · rfl
    · rfl
    · rfl
    · rfl
    · rfl
    · unfold dataWrite ppuWrite
      dsimp only
      split
      · rfl
      · split <;> rfl
  split
  · exact oamDmaFrom_pc d 256 0 w s
  split
  · rfl
  split
  · rfl
  unfold illegalWrite
  dsimp only
  split <;> rfl

theorem addressed_start (m : AddrMode) (i : Instr) (s : State) : addressed m (s.start i) = addressed m s :=
  addressed_congr rfl rfl rfl

theorem cpuRead_start (a : Word) (i : Instr) (s : State) :
    cpuRead a (s.start i) = (cpuRead a s).mapState fun t => { t with pc := nextPc i s } := cpuRead_pc a _ s

theorem cpuWrite_start (a : Word) (d : Byte) (i : Instr) (s : State) :
    cpuWrite a d (s.start i) = (cpuWrite a d s).mapState fun t => { t with pc := nextPc i s } := cpuWrite_pc a d _ s

/-! ### Read class -/

/-- The operand is loaded once, and the address says whether a page was crossed (R150, R151). -/
theorem load_eq (i : Instr) (m : ReadOperand) (s : State) :
    load m (s.start i) = ((operandRead m s).bind fun v t => .ok ⟨v, operandCrossed m s⟩ t).mapState
      fun t => { t with pc := nextPc i s } := by
  cases m with
  | imm b => rfl
  | mem m =>
    rw [load, loadMem, effAddr_eq, Bus.bind_ok, addressed_start, cpuRead_start]
    exact Bus.bind_mapState fun v t => rfl

/-- A read-class instruction whose operand is read. -/
theorem readOp_next {i : Instr} {m : ReadOperand} {f : Byte → State → State} {s t : State} {v : Byte}
    (h : operandRead m s = .ok v t) :
    readOp i m f s = .next ((f v { t with pc := nextPc i s }).setCycles (cyclesOf i (operandCrossed m s))) := by
  rw [readOp, load_eq, h]
  rfl

/-- A read-class instruction whose read ends the step. -/
theorem readOp_stop {i : Instr} {m : ReadOperand} {f : Byte → State → State} {s t : State} (h : operandRead m s = .stop t) :
    readOp i m f s = .next { t with pc := nextPc i s, cycles := 0 } := by
  rw [readOp, load_eq, h, Bus.bind_stop, Bus.mapState_stop, Bus.bind_stop]
  rfl

/-! ### Write class -/

/-- A write-class instruction whose write goes on; `f` reads registers only. -/
theorem writeOp_next {i : Instr} {m : AddrMode} {f : State → Byte} {s t : State}
    (hf : f (s.start i) = f s) (h : cpuWrite (addressed m s).addr (f s) s = .ok () t) :
    writeOp i m f s = .next { t with pc := nextPc i s, cycles := i.row.cycles } := by
  rw [writeOp, effAddr_eq, Bus.bind_ok, addressed_start, hf, cpuWrite_start, h]
  rfl

/-- A write-class instruction whose write ends the step. -/
theorem writeOp_stop {i : Instr} {m : AddrMode} {f : State → Byte} {s t : State}
    (hf : f (s.start i) = f s) (h : cpuWrite (addressed m s).addr (f s) s = .stop t) :
    writeOp i m f s = .next { t with pc := nextPc i s, cycles := 0 } := by
  rw [writeOp, effAddr_eq, Bus.bind_ok, addressed_start, hf, cpuWrite_start, h, Bus.mapState_stop, Bus.bind_stop]
  rfl

/-! ### Read-modify-write class -/

/-- A read-modify-write instruction whose read goes on. -/
theorem modifyOp_read {i : Instr} {m : AddrMode} {f : Byte → State → Byte × State} {g : Byte → State → State} {s t : State}
    {v : Byte} (h : cpuRead (addressed m s).addr s = .ok v t) :
    modifyOp i m f g s = complete i
      ((cpuWrite (addressed m s).addr (f v { t with pc := nextPc i s }).1 (f v { t with pc := nextPc i s }).2).bind
        fun _ s3 => .ok 0 (g (f v { t with pc := nextPc i s }).1 s3)) := by
  rw [modifyOp, effAddr_eq, Bus.bind_ok, addressed_start, cpuRead_start, h]
  rfl

/-- A read-modify-write instruction whose read ends the step. -/
theorem modifyOp_stop {i : Instr} {m : AddrMode} {f : Byte → State → Byte × State} {g : Byte → State → State} {s t : State}
    (h : cpuRead (addressed m s).addr s = .stop t) :
    modifyOp i m f g s = .next { t with pc := nextPc i s, cycles := 0 } := by
  rw [modifyOp, effAddr_eq, Bus.bind_ok, addressed_start, cpuRead_start, h, Bus.mapState_stop, Bus.bind_stop]
  rfl

end Sys2Proof.Machine
end

