-- ==== Sys2Proof/Laws/PerInstr.lean ====
section
/-! SUPPORT. The encoding of every instruction stands in the row of the decode table that bears its name. -/

namespace Sys2Proof.Laws

/-- A well-formed instruction's opcode byte selects a row with that opcode, the instruction's mnemonic and its size (R123, R126,
R130). -/
def RowMatches.Statement (i : Instr) : Prop :=
  i.wellFormed = true → i.row.opcode = i.opcode ∧ i.row.mnemonic = i.mnemonic ∧ i.row.size = i.size

namespace RowMatches

/-- A form the table does not give the instruction. -/
theorem of_no_row {i : Instr} (h : i.wellFormed = false) : Statement i := fun h' => absurd (h.symm.trans h') Bool.false_ne_true

theorem lda (m : ReadOperand) : Statement (.lda m) := by
  rcases m with b | m
  · intro _; dsimp only [Instr.row, Instr.opcode, ReadOperand.pick, ShiftOperand.pick]; exact ⟨rfl, rfl, rfl⟩
  · cases m <;> first
    | exact of_no_row rfl
    | (intro _; dsimp only [Instr.row, Instr.opcode, ReadOperand.pick, AddrMode.pick, ShiftOperand.pick]; exact ⟨rfl, rfl, rfl⟩)

theorem ldx (m : ReadOperand) : Statement (.ldx m) := by
  rcases m with b | m
  · intro _; dsimp only [Instr.row, Instr.opcode, ReadOperand.pick, ShiftOperand.pick]; exact ⟨rfl, rfl, rfl⟩
  · cases m <;> first
    | exact of_no_row rfl
    | (intro _; dsimp only [Instr.row, Instr.opcode, ReadOperand.pick, AddrMode.pick, ShiftOperand.pick]; exact ⟨rfl, rfl, rfl⟩)

theorem ldy (m : ReadOperand) : Statement (.ldy m) := by
  rcases m with b | m
  · intro _; dsimp only [Instr.row, Instr.opcode, ReadOperand.pick, ShiftOperand.pick]; exact ⟨rfl, rfl, rfl⟩
  · cases m <;> first
    | exact of_no_row rfl
    | (intro _; dsimp only [Instr.row, Instr.opcode, ReadOperand.pick, AddrMode.pick, ShiftOperand.pick]; exact ⟨rfl, rfl, rfl⟩)

theorem sta (m : AddrMode) : Statement (.sta m) := by
  cases m <;> first
    | exact of_no_row rfl
    | (intro _; dsimp only [Instr.row, Instr.opcode, ReadOperand.pick, AddrMode.pick, ShiftOperand.pick]; exact ⟨rfl, rfl, rfl⟩)

theorem stx (m : AddrMode) : Statement (.stx m) := by
  cases m <;> first
    | exact of_no_row rfl
    | (intro _; dsimp only [Instr.row, Instr.opcode, ReadOperand.pick, AddrMode.pick, ShiftOperand.pick]; exact ⟨rfl, rfl, rfl⟩)

theorem sty (m : AddrMode) : Statement (.sty m) := by
  cases m <;> first
    | exact of_no_row rfl
    | (intro _; dsimp only [Instr.row, Instr.opcode, ReadOperand.pick, AddrMode.pick, ShiftOperand.pick]; exact ⟨rfl, rfl, rfl⟩)

theorem tax : Statement .tax := fun _ => ⟨rfl, rfl, rfl⟩

theorem tay : Statement .tay := fun _ => ⟨rfl, rfl, rfl⟩

theorem txa : Statement .txa := fun _ => ⟨rfl, rfl, rfl⟩

theorem tya : Statement .tya := fun _ => ⟨rfl, rfl, rfl⟩

theorem tsx : Statement .tsx := fun _ => ⟨rfl, rfl, rfl⟩

theorem txs : Statement .txs := fun _ => ⟨rfl, rfl, rfl⟩

theorem adc (m : ReadOperand) : Statement (.adc m) := by
  rcases m with b | m
  · intro _; dsimp only [Instr.row, Instr.opcode, ReadOperand.pick, ShiftOperand.pick]; exact ⟨rfl, rfl, rfl⟩
  · cases m <;> first
    | exact of_no_row rfl
    | (intro _; dsimp only [Instr.row, Instr.opcode, ReadOperand.pick, AddrMode.pick, ShiftOperand.pick]; exact ⟨rfl, rfl, rfl⟩)

theorem sbc (m : ReadOperand) : Statement (.sbc m) := by
  rcases m with b | m
  · intro _; dsimp only [Instr.row, Instr.opcode, ReadOperand.pick, ShiftOperand.pick]; exact ⟨rfl, rfl, rfl⟩
  · cases m <;> first
    | exact of_no_row rfl
    | (intro _; dsimp only [Instr.row, Instr.opcode, ReadOperand.pick, AddrMode.pick, ShiftOperand.pick]; exact ⟨rfl, rfl, rfl⟩)

theorem and (m : ReadOperand) : Statement (.and m) := by
  rcases m with b | m
  · intro _; dsimp only [Instr.row, Instr.opcode, ReadOperand.pick, ShiftOperand.pick]; exact ⟨rfl, rfl, rfl⟩
  · cases m <;> first
    | exact of_no_row rfl
    | (intro _; dsimp only [Instr.row, Instr.opcode, ReadOperand.pick, AddrMode.pick, ShiftOperand.pick]; exact ⟨rfl, rfl, rfl⟩)

theorem ora (m : ReadOperand) : Statement (.ora m) := by
  rcases m with b | m
  · intro _; dsimp only [Instr.row, Instr.opcode, ReadOperand.pick, ShiftOperand.pick]; exact ⟨rfl, rfl, rfl⟩
  · cases m <;> first
    | exact of_no_row rfl
    | (intro _; dsimp only [Instr.row, Instr.opcode, ReadOperand.pick, AddrMode.pick, ShiftOperand.pick]; exact ⟨rfl, rfl, rfl⟩)

theorem eor (m : ReadOperand) : Statement (.eor m) := by
  rcases m with b | m
  · intro _; dsimp only [Instr.row, Instr.opcode, ReadOperand.pick, ShiftOperand.pick]; exact ⟨rfl, rfl, rfl⟩
  · cases m <;> first
    | exact of_no_row rfl
    | (intro _; dsimp only [Instr.row, Instr.opcode, ReadOperand.pick, AddrMode.pick, ShiftOperand.pick]; exact ⟨rfl, rfl, rfl⟩)

theorem cmp (m : ReadOperand) : Statement (.cmp m) := by
  rcases m with b | m
  · intro _; dsimp only [Instr.row, Instr.opcode, ReadOperand.pick, ShiftOperand.pick]; exact ⟨rfl, rfl, rfl⟩
  · cases m <;> first
    | exact of_no_row rfl
    | (intro _; dsimp only [Instr.row, Instr.opcode, ReadOperand.pick, AddrMode.pick, ShiftOperand.pick]; exact ⟨rfl, rfl, rfl⟩)

theorem cpx (m : ReadOperand) : Statement (.cpx m) := by
  rcases m with b | m
  · intro _; dsimp only [Instr.row, Instr.opcode, ReadOperand.pick, ShiftOperand.pick]; exact ⟨rfl, rfl, rfl⟩
  · cases m <;> first
    | exact of_no_row rfl
    | (intro _; dsimp only [Instr.row, Instr.opcode, ReadOperand.pick, AddrMode.pick, ShiftOperand.pick]; exact ⟨rfl, rfl, rfl⟩)

theorem cpy (m : ReadOperand) : Statement (.cpy m) := by
  rcases m with b | m
  · intro _; dsimp only [Instr.row, Instr.opcode, ReadOperand.pick, ShiftOperand.pick]; exact ⟨rfl, rfl, rfl⟩
  · cases m <;> first
    | exact of_no_row rfl
    | (intro _; dsimp only [Instr.row, Instr.opcode, ReadOperand.pick, AddrMode.pick, ShiftOperand.pick]; exact ⟨rfl, rfl, rfl⟩)

theorem bit (m : AddrMode) : Statement (.bit m) := by
  cases m <;> first
    | exact of_no_row rfl
    | (intro _; dsimp only [Instr.row, Instr.opcode, ReadOperand.pick, AddrMode.pick, ShiftOperand.pick]; exact ⟨rfl, rfl, rfl⟩)

theorem inc (m : AddrMode) : Statement (.inc m) := by
  cases m <;> first
    | exact of_no_row rfl
    | (intro _; dsimp only [Instr.row, Instr.opcode, ReadOperand.pick, AddrMode.pick, ShiftOperand.pick]; exact ⟨rfl, rfl, rfl⟩)

theorem dec (m : AddrMode) : Statement (.dec m) := by
  cases m <;> first
    | exact of_no_row rfl
    | (intro _; dsimp only [Instr.row, Instr.opcode, ReadOperand.pick, AddrMode.pick, ShiftOperand.pick]; exact ⟨rfl, rfl, rfl⟩)

theorem inx : Statement .inx := fun _ => ⟨rfl, rfl, rfl⟩

theorem iny : Statement .iny := fun _ => ⟨rfl, rfl, rfl⟩

theorem dex : Statement .dex := fun _ => ⟨rfl, rfl, rfl⟩

theorem dey : Statement .dey := fun _ => ⟨rfl, rfl, rfl⟩

theorem asl (m : ShiftOperand) : Statement (.asl m) := by
  rcases m with _ | m
  · intro _; dsimp only [Instr.row, Instr.opcode, ReadOperand.pick, ShiftOperand.pick]; exact ⟨rfl, rfl, rfl⟩
  · cases m <;> first
    | exact of_no_row rfl
    | (intro _; dsimp only [Instr.row, Instr.opcode, ReadOperand.pick, AddrMode.pick, ShiftOperand.pick]; exact ⟨rfl, rfl, rfl⟩)

theorem lsr (m : ShiftOperand) : Statement (.lsr m) := by
  rcases m with _ | m
  · intro _; dsimp only [Instr.row, Instr.opcode, ReadOperand.pick, ShiftOperand.pick]; exact ⟨rfl, rfl, rfl⟩
  · cases m <;> first
    | exact of_no_row rfl
    | (intro _; dsimp only [Instr.row, Instr.opcode, ReadOperand.pick, AddrMode.pick, ShiftOperand.pick]; exact ⟨rfl, rfl, rfl⟩)

theorem rol (m : ShiftOperand) : Statement (.rol m) := by
  rcases m with _ | m
  · intro _; dsimp only [Instr.row, Instr.opcode, ReadOperand.pick, ShiftOperand.pick]; exact ⟨rfl, rfl, rfl⟩
  · cases m <;> first
    | exact of_no_row rfl
    | (intro _; dsimp only [Instr.row, Instr.opcode, ReadOperand.pick, AddrMode.pick, ShiftOperand.pick]; exact ⟨rfl, rfl, rfl⟩)

theorem ror (m : ShiftOperand) : Statement (.ror m) := by
  rcases m with _ | m
  · intro _; dsimp only [Instr.row, Instr.opcode, ReadOperand.pick, ShiftOperand.pick]; exact ⟨rfl, rfl, rfl⟩
  · cases m <;> first
    | exact of_no_row rfl
    | (intro _; dsimp only [Instr.row, Instr.opcode, ReadOperand.pick, AddrMode.pick, ShiftOperand.pick]; exact ⟨rfl, rfl, rfl⟩)

theorem bpl (d : Byte) : Statement (.bpl d) := by
  intro _; dsimp only [Instr.row, Instr.opcode]; exact ⟨rfl, rfl, rfl⟩

theorem bmi (d : Byte) : Statement (.bmi d) := by
  intro _; dsimp only [Instr.row, Instr.opcode]; exact ⟨rfl, rfl, rfl⟩

theorem bvc (d : Byte) : Statement (.bvc d) := by
  intro _; dsimp only [Instr.row, Instr.opcode]; exact ⟨rfl, rfl, rfl⟩

theorem bvs (d : Byte) : Statement (.bvs d) := by
  intro _; dsimp only [Instr.row, Instr.opcode]; exact ⟨rfl, rfl, rfl⟩

theorem bcc (d : Byte) : Statement (.bcc d) := by
  intro _; dsimp only [Instr.row, Instr.opcode]; exact ⟨rfl, rfl, rfl⟩

theorem bcs (d : Byte) : Statement (.bcs d) := by
  intro _; dsimp only [Instr.row, Instr.opcode]; exact ⟨rfl, rfl, rfl⟩

theorem bne (d : Byte) : Statement (.bne d) := by
  intro _; dsimp only [Instr.row, Instr.opcode]; exact ⟨rfl, rfl, rfl⟩

theorem beq (d : Byte) : Statement (.beq d) := by
  intro _; dsimp only [Instr.row, Instr.opcode]; exact ⟨rfl, rfl, rfl⟩

theorem jmp (t : JumpOperand) : Statement (.jmp t) := by
  cases t <;> (intro _; dsimp only [Instr.row, Instr.opcode]; exact ⟨rfl, rfl, rfl⟩)

theorem jsr (w : Word) : Statement (.jsr w) := by
  intro _; dsimp only [Instr.row, Instr.opcode]; exact ⟨rfl, rfl, rfl⟩

theorem rts : Statement .rts := fun _ => ⟨rfl, rfl, rfl⟩

theorem rti : Statement .rti := fun _ => ⟨rfl, rfl, rfl⟩

theorem brk : Statement .brk := fun _ => ⟨rfl, rfl, rfl⟩

theorem pha : Statement .pha := fun _ => ⟨rfl, rfl, rfl⟩

theorem php : Statement .php := fun _ => ⟨rfl, rfl, rfl⟩

theorem pla : Statement .pla := fun _ => ⟨rfl, rfl, rfl⟩

theorem plp : Statement .plp := fun _ => ⟨rfl, rfl, rfl⟩

theorem clc : Statement .clc := fun _ => ⟨rfl, rfl, rfl⟩

theorem sec : Statement .sec := fun _ => ⟨rfl, rfl, rfl⟩

theorem cli : Statement .cli := fun _ => ⟨rfl, rfl, rfl⟩

theorem sei : Statement .sei := fun _ => ⟨rfl, rfl, rfl⟩

theorem cld : Statement .cld := fun _ => ⟨rfl, rfl, rfl⟩

theorem sed : Statement .sed := fun _ => ⟨rfl, rfl, rfl⟩

theorem clv : Statement .clv := fun _ => ⟨rfl, rfl, rfl⟩

theorem nop : Statement .nop := fun _ => ⟨rfl, rfl, rfl⟩

/-- The cells of every unofficial NOP format hold rows named NOP, of that format's size. -/
theorem nop_cells : ∀ op : Byte,
    (nopImpliedOpcodes.contains op = true → (rowOf op).opcode = op ∧ (rowOf op).mnemonic = "NOP" ∧ (rowOf op).size = 1) ∧
    ((nopImmediateOpcodes ++ nopZeroPageOpcodes ++ nopZeroPageXOpcodes).contains op = true →
      (rowOf op).opcode = op ∧ (rowOf op).mnemonic = "NOP" ∧ (rowOf op).size = 2) ∧
    ((nopAbsoluteOpcodes ++ nopAbsoluteXOpcodes).contains op = true →
      (rowOf op).opcode = op ∧ (rowOf op).mnemonic = "NOP" ∧ (rowOf op).size = 3) := by
  decide +kernel

theorem nopUnofficial (op : Byte) (m : NopOperand) : Statement (.nopUnofficial op m) := by
  obtain ⟨h1, h2, h3⟩ := nop_cells op
  simp only [List.contains_append, Bool.or_eq_true] at h2 h3
  rcases m with _ | b | m
  · exact h1
  · exact fun h => h2 (Or.inl (Or.inl h))
  · cases m
    · exact fun h => h2 (Or.inl (Or.inr h))
    · exact fun h => h2 (Or.inr h)
    · exact fun h => absurd h Bool.false_ne_true
    · exact fun h => h3 (Or.inl h)
    · exact fun h => h3 (Or.inr h)
    all_goals exact fun h => absurd h Bool.false_ne_true

theorem lax (m : AddrMode) : Statement (.lax m) := by
  cases m <;> first
    | exact of_no_row rfl
    | (intro _; dsimp only [Instr.row, Instr.opcode, ReadOperand.pick, AddrMode.pick, ShiftOperand.pick]; exact ⟨rfl, rfl, rfl⟩)

theorem sax (m : AddrMode) : Statement (.sax m) := by
  cases m <;> first
    | exact of_no_row rfl
    | (intro _; dsimp only [Instr.row, Instr.opcode, ReadOperand.pick, AddrMode.pick, ShiftOperand.pick]; exact ⟨rfl, rfl, rfl⟩)

theorem sbcEB (b : Byte) : Statement (.sbcEB b) := by
  intro _; dsimp only [Instr.row, Instr.opcode]; exact ⟨rfl, rfl, rfl⟩

theorem dcp (m : AddrMode) : Statement (.dcp m) := by
  cases m <;> first
    | exact of_no_row rfl
    | (intro _; dsimp only [Instr.row, Instr.opcode, ReadOperand.pick, AddrMode.pick, ShiftOperand.pick]; exact ⟨rfl, rfl, rfl⟩)

theorem isb (m : AddrMode) : Statement (.isb m) := by
  cases m <;> first
    | exact of_no_row rfl
    | (intro _; dsimp only [Instr.row, Instr.opcode, ReadOperand.pick, AddrMode.pick, ShiftOperand.pick]; exact ⟨rfl, rfl, rfl⟩)

theorem slo (m : AddrMode) : Statement (.slo m) := by
  cases m <;> first
    | exact of_no_row rfl
    | (intro _; dsimp only [Instr.row, Instr.opcode, ReadOperand.pick, AddrMode.pick, ShiftOperand.pick]; exact ⟨rfl, rfl, rfl⟩)

theorem rla (m : AddrMode) : Statement (.rla m) := by
  cases m <;> first
    | exact of_no_row rfl
    | (intro _; dsimp only [Instr.row, Instr.opcode, ReadOperand.pick, AddrMode.pick, ShiftOperand.pick]; exact ⟨rfl, rfl, rfl⟩)

theorem sre (m : AddrMode) : Statement (.sre m) := by
  cases m <;> first
    | exact of_no_row rfl
    | (intro _; dsimp only [Instr.row, Instr.opcode, ReadOperand.pick, AddrMode.pick, ShiftOperand.pick]; exact ⟨rfl, rfl, rfl⟩)

theorem rra (m : AddrMode) : Statement (.rra m) := by
  cases m <;> first
    | exact of_no_row rfl
    | (intro _; dsimp only [Instr.row, Instr.opcode, ReadOperand.pick, AddrMode.pick, ShiftOperand.pick]; exact ⟨rfl, rfl, rfl⟩)

theorem kil (op : Byte) : Statement (.kil op) := by
  revert op; unfold Statement; decide +kernel

theorem anc (op : Byte) : Statement (.anc op) := by
  revert op; unfold Statement; decide +kernel

theorem alr : Statement .alr := fun _ => ⟨rfl, rfl, rfl⟩

theorem arr : Statement .arr := fun _ => ⟨rfl, rfl, rfl⟩

theorem xaa : Statement .xaa := fun _ => ⟨rfl, rfl, rfl⟩

theorem ahx (op : Byte) : Statement (.ahx op) := by
  revert op; unfold Statement; decide +kernel

theorem tas : Statement .tas := fun _ => ⟨rfl, rfl, rfl⟩

theorem shy : Statement .shy := fun _ => ⟨rfl, rfl, rfl⟩

theorem shx : Statement .shx := fun _ => ⟨rfl, rfl, rfl⟩

theorem lxa : Statement .lxa := fun _ => ⟨rfl, rfl, rfl⟩

theorem las : Statement .las := fun _ => ⟨rfl, rfl, rfl⟩

theorem axs : Statement .axs := fun _ => ⟨rfl, rfl, rfl⟩

end RowMatches

end Sys2Proof.Laws
end

