-- ==== Sys2Proof/Laws/Terms.lean ====
section
/-! SUPPORT. The flag computations in the terms of claims: what SetZN, AddCore, CompareCore, the shift cores, BIT and a single
flag write make of P. -/

namespace Sys2Proof.Machine

theorem getFlag_n_eq (r p : Byte) : getFlag .n (setZN r p) = decide (128 ≤ r.toNat) := by
  rw [getFlag_setZN_n]; revert r; decide +kernel

theorem getFlag_z_eq (r p : Byte) : getFlag .z (setZN r p) = decide (r.toNat = 0) := by
  rw [getFlag_setZN_z]; revert r; decide +kernel

/-- SetZN in the terms of claims (R11). -/
theorem zeroNegativeOf_setZN (r p : Byte) : zeroNegativeOf r p (setZN r p) :=
  ⟨getFlag_z_eq r p, getFlag_n_eq r p, fun _ hz hn => getFlag_setZN_other hz hn r p, setZN_keeps_b r p⟩

/-- A flag write in the terms of claims. -/
theorem onlyFlag_putFlag (f : Flag) (b : Bool) (p : Byte) : onlyFlag f b p (putFlag f b p) :=
  ⟨getFlag_putFlag_same f b p, fun _ h => getFlag_putFlag_other (Ne.symm h) b p, putFlag_keeps_b f b p⟩

/-- P as AddCore leaves it (R155). -/
def addFlags (a m p : Byte) : Byte :=
  setZN (addResult a m (getFlag .c p))
    (putFlag .v (addOverflow a m (getFlag .c p)) (putFlag .c (addCarry a m (getFlag .c p)) p))

theorem addCore_eq (m : Byte) (s : State) :
    s.addCore m = { s with a := addResult s.a m (getFlag .c s.p), p := addFlags s.a m s.p } := rfl

/-- AddCore in the terms of claims (R155). -/
theorem addsTo_addCore (a m p : Byte) : addsTo a m p (addResult a m (getFlag .c p)) (addFlags a m p) := by
  refine ⟨?_, ?_, ?_, getFlag_z_eq _ _, getFlag_n_eq _ _, ?_, ?_, ?_⟩
  · simp [addResult, addSum]
  · rw [addFlags, getFlag_setZN_other (by decide) (by decide), getFlag_putFlag_other (by decide), getFlag_putFlag_same,
      addCarry_eq]
    rfl
  · rw [addFlags, getFlag_setZN_other (by decide) (by decide), getFlag_putFlag_same, addOverflow]
    simp only [bne, ne_eq, decide_not, beq_eq_decide]
  · rw [addFlags, getFlag_setZN_other (by decide) (by decide), getFlag_putFlag_other (by decide),
      getFlag_putFlag_other (by decide)]
  · rw [addFlags, getFlag_setZN_other (by decide) (by decide), getFlag_putFlag_other (by decide),
      getFlag_putFlag_other (by decide)]
  · rw [addFlags, setZN_keeps_b, putFlag_keeps_b, putFlag_keeps_b]

/-- P as CompareCore leaves it (R157). -/
def compareFlags (src m p : Byte) : Byte := setZN (src - m) (putFlag .c (decide (m.toNat ≤ src.toNat)) p)

theorem compareCore_eq (src m : Byte) (s : State) : s.compareCore src m = { s with p := compareFlags src m s.p } := rfl

/-- CompareCore in the terms of claims (R157). -/
theorem comparesTo_compareCore (src m p : Byte) : comparesTo src m p (compareFlags src m p) := by
  have hs := src.isLt
  have hm := m.isLt
  have hd : (src - m).toNat = (src.toNat + 256 - m.toNat) % 256 := by
    rw [BitVec.toNat_sub]; omega
  refine ⟨?_, ?_, ?_, ?_, ?_, ?_, ?_⟩
  · rw [compareFlags, getFlag_setZN_other (by decide) (by decide), getFlag_putFlag_same]
  · rw [compareFlags, getFlag_z_eq, decide_eq_decide, hd, ← BitVec.toNat_inj]
    omega
  · rw [compareFlags, getFlag_n_eq, hd]
  · rw [compareFlags, getFlag_setZN_other (by decide) (by decide), getFlag_putFlag_other (by decide)]
  · rw [compareFlags, getFlag_setZN_other (by decide) (by decide), getFlag_putFlag_other (by decide)]
  · rw [compareFlags, getFlag_setZN_other (by decide) (by decide), getFlag_putFlag_other (by decide)]
  · rw [compareFlags, setZN_keeps_b, putFlag_keeps_b]

/-- The shift cores in the terms of claims (R158). -/
theorem shiftsTo_shiftCore (k : ShiftKind) (m : Byte) (c : Bool) :
    shiftsTo k m c (shiftResult k m c) (shiftCarry k m) := by
  cases k with
  | asl =>
    have h := shiftLeft_eq m false
    rw [← shiftResult_asl m c] at h
    simp only [shiftsTo]
    simpa [bit, shiftCarry] using h.symm
  | rol => exact (shiftLeft_eq m c).symm
  | lsr =>
    have h := shiftRight_eq m false
    rw [← shiftResult_lsr m c] at h
    simp only [shiftsTo]
    simpa [bit, shiftCarry] using h.symm
  | ror => exact (shiftRight_eq m c).symm

/-- SetZN after a carry has been written, in the terms of claims. -/
theorem shiftFlags_setZN (r : Byte) (out : Bool) (p : Byte) : shiftFlags r out p (setZN r (putFlag .c out p)) := by
  refine ⟨?_, getFlag_z_eq _ _, getFlag_n_eq _ _, ?_, ?_, ?_, ?_⟩
  · rw [getFlag_setZN_other (by decide) (by decide), getFlag_putFlag_same]
  · rw [getFlag_setZN_other (by decide) (by decide), getFlag_putFlag_other (by decide)]
  · rw [getFlag_setZN_other (by decide) (by decide), getFlag_putFlag_other (by decide)]
  · rw [getFlag_setZN_other (by decide) (by decide), getFlag_putFlag_other (by decide)]
  · rw [setZN_keeps_b, putFlag_keeps_b]

end Sys2Proof.Machine
end

