-- ==== Sys2Proof/Tests/Slice0.lean ====
section
/-! SUPPORT. Tests of the model, and for every statement that has hypotheses a state that meets them. What a test expects is a
vector of spec/95_test_vectors.md, named in its comment by number, or worked out by hand from the rule named there. -/

namespace Sys2Proof.Tests

open Sys2Proof Sys2Proof.Machine

set_option Elab.async false

/-! ## Well-formed instructions -/

/-- The table has no such row: R180 to R185, R202 to R210. -/
theorem test_ill_formed_operands :
    [Instr.lda (.mem (.zpY 0)), .adc (.mem (.zpY 0)), .sbc (.mem (.zpY 0)), .and (.mem (.zpY 0)), .ora (.mem (.zpY 0)),
      .eor (.mem (.zpY 0)), .cmp (.mem (.zpY 0)), .ldx (.mem (.zpX 0)), .ldx (.mem (.absX 0)), .ldx (.mem (.indY 0)),
      .ldy (.mem (.zpY 0)), .ldy (.mem (.absY 0)), .cpx (.mem (.zpX 0)), .cpy (.mem (.absX 0)), .sta (.zpY 0), .stx (.zpX 0),
      .stx (.absY 0), .sty (.zpY 0), .sty (.absX 0), .bit (.zpX 0), .inc (.absY 0), .dec (.indX 0)].all
      (fun i => !i.wellFormed) = true := by decide +kernel

/-- R230 to R233, R281 to R291: a shift of an indirect operand, an unofficial form that does not exist, an opcode byte that is
not the mnemonic's. -/
theorem test_ill_formed_shifts_and_cells :
    [Instr.asl (.mem (.absY 0)), .lsr (.mem (.zpY 0)), .rol (.mem (.indX 0)), .ror (.mem (.indY 0)), .lax (.zpX 0),
      .lax (.absX 0), .sax (.zpX 0), .sax (.absX 0), .sax (.indY 0), .dcp (.zpY 0), .isb (.zpY 0), .slo (.zpY 0),
      .rla (.zpY 0), .sre (.zpY 0), .rra (.zpY 0), .nopUnofficial 0xEA .implied, .nopUnofficial 0x80 .implied,
      .nopUnofficial 0x04 (.imm 0), .nopUnofficial 0x14 (.mem (.zp 0)), .nopUnofficial 0x0C (.mem (.absX 0)),
      .nopUnofficial 0x04 (.mem (.indX 0)), .kil 0x00, .kil 0x82, .anc 0x4B, .ahx 0x9B].all
      (fun i => !i.wellFormed) = true := by decide +kernel

/-! ## Decoding: words written out from the encodings -/

/-- Every pair is the bytes of an instruction and that instruction, which is well-formed. -/
def decodes (l : List (List Byte × Instr)) : Bool :=
  l.all fun p => p.2.wellFormed && match decode p.1 with
    | .ok i => i == p.2
    | .error _ => false

/-- R180 to R191. -/
theorem test_decode_loads_and_transfers :
    decodes [([0xA9, 0x05], .lda (.imm 0x05)), ([0xA1, 0x20], .lda (.mem (.indX 0x20))), ([0xA6, 0x10], .ldx (.mem (.zp 0x10))),
      ([0xBE, 0x34, 0x12], .ldx (.mem (.absY 0x1234))), ([0xB4, 0x10], .ldy (.mem (.zpX 0x10))),
      ([0x9D, 0x00, 0x02], .sta (.absX 0x0200)), ([0x91, 0x20], .sta (.indY 0x20)), ([0x96, 0x10], .stx (.zpY 0x10)),
      ([0x8C, 0x34, 0x12], .sty (.abs 0x1234)), ([0xAA], .tax), ([0xA8], .tay), ([0x8A], .txa), ([0x98], .tya), ([0xBA], .tsx),
      ([0x9A], .txs)] = true := by decide +kernel

/-- R200 to R214. -/
theorem test_decode_arithmetic_and_logic :
    decodes [([0x69, 0x05], .adc (.imm 0x05)), ([0xE5, 0x10], .sbc (.mem (.zp 0x10))), ([0x2D, 0x34, 0x12], .and (.mem (.abs 0x1234))),
      ([0x19, 0x34, 0x12], .ora (.mem (.absY 0x1234))), ([0x41, 0x20], .eor (.mem (.indX 0x20))),
      ([0xD1, 0x20], .cmp (.mem (.indY 0x20))), ([0xE4, 0x10], .cpx (.mem (.zp 0x10))), ([0xCC, 0x34, 0x12], .cpy (.mem (.abs 0x1234))),
      ([0x2C, 0x02, 0x20], .bit (.abs 0x2002)), ([0xF6, 0x10], .inc (.zpX 0x10)), ([0xCE, 0x34, 0x12], .dec (.abs 0x1234)),
      ([0xE8], .inx), ([0xC8], .iny), ([0xCA], .dex), ([0x88], .dey)] = true := by decide +kernel

/-- R230 to R233. -/
theorem test_decode_shifts :
    decodes [([0x0A], .asl .acc), ([0x46, 0x10], .lsr (.mem (.zp 0x10))), ([0x2E, 0x34, 0x12], .rol (.mem (.abs 0x1234))),
      ([0x7E, 0x34, 0x12], .ror (.mem (.absX 0x1234)))] = true := by decide +kernel

/-- R240 to R253. -/
theorem test_decode_control_transfer :
    decodes [([0x10, 0x80], .bpl 0x80), ([0x30, 0x01], .bmi 0x01), ([0x50, 0x02], .bvc 0x02), ([0x70, 0x03], .bvs 0x03),
      ([0x90, 0x04], .bcc 0x04), ([0xB0, 0x05], .bcs 0x05), ([0xD0, 0xF9], .bne 0xF9), ([0xF0, 0xFE], .beq 0xFE),
      ([0x4C, 0x00, 0xC0], .jmp (.abs 0xC000)), ([0x6C, 0xFF, 0x02], .jmp (.ind 0x02FF)), ([0x20, 0x10, 0x80], .jsr 0x8010),
      ([0x60], .rts), ([0x40], .rti), ([0x00, 0x77], .brk), ([0x00], .brk)] = true := by decide +kernel

/-- R260 to R271. -/
theorem test_decode_stack_and_flags :
    decodes [([0x48], .pha), ([0x08], .php), ([0x68], .pla), ([0x28], .plp), ([0x18], .clc), ([0x38], .sec), ([0x58], .cli),
      ([0x78], .sei), ([0xD8], .cld), ([0xF8], .sed), ([0xB8], .clv), ([0xEA], .nop)] = true := by decide +kernel

/-- R281 to R290. -/
theorem test_decode_unofficial :
    decodes [([0x1A], .nopUnofficial 0x1A .implied), ([0xC2, 0x55], .nopUnofficial 0xC2 (.imm 0x55)),
      ([0x64, 0x10], .nopUnofficial 0x64 (.mem (.zp 0x10))), ([0xD4, 0x10], .nopUnofficial 0xD4 (.mem (.zpX 0x10))),
      ([0x0C, 0x34, 0x12], .nopUnofficial 0x0C (.mem (.abs 0x1234))), ([0xFC, 0x34, 0x12], .nopUnofficial 0xFC (.mem (.absX 0x1234))),
      ([0xBF, 0x34, 0x12], .lax (.absY 0x1234)), ([0x83, 0x20], .sax (.indX 0x20)), ([0xEB, 0x01], .sbcEB 0x01),
      ([0xDB, 0x34, 0x12], .dcp (.absY 0x1234)), ([0xF3, 0x20], .isb (.indY 0x20)), ([0x0F, 0x34, 0x12], .slo (.abs 0x1234)),
      ([0x37, 0x10], .rla (.zpX 0x10)), ([0x43, 0x20], .sre (.indX 0x20)), ([0x7B, 0x34, 0x12], .rra (.absY 0x1234))] = true := by
  decide +kernel

/-- R291. -/
theorem test_decode_halting :
    decodes [([0x02], .kil 0x02), ([0xF2], .kil 0xF2), ([0x0B, 0x01], .anc 0x0B), ([0x2B, 0x01], .anc 0x2B), ([0x4B, 0x01], .alr),
      ([0x6B, 0x01], .arr), ([0x8B, 0x01], .xaa), ([0x93, 0x01], .ahx 0x93), ([0x9F, 0x01, 0x02], .ahx 0x9F),
      ([0x9B, 0x01, 0x02], .tas), ([0x9C, 0x01, 0x02], .shy), ([0x9E, 0x01, 0x02], .shx), ([0xAB, 0x01], .lxa),
      ([0xBB, 0x01, 0x02], .las), ([0xCB, 0x01], .axs)] = true := by decide +kernel

/-- R120: a list that ends before an operand byte holds no instruction. -/
theorem test_decode_rejects_missing_bytes :
    (match decode [], decode [0xA9], decode [0xAD, 0x00] with
      | .error .noOpcode, .error (.missingOperand 0xA9), .error (.missingOperand 0xAD) => true
      | _, _, _ => false) = true := by decide +kernel

/-- R122: the words as the table numbers their bits, the low byte of an operand first. -/
theorem test_table_words :
    decodeTableWord 24 0x1234BD = some (.lda (.mem (.absX 0x1234))) ∧ decodeTableWord 8 0xE8 = some .inx ∧
      decodeTableWord 8 0x1269 = some (.adc (.imm 0x00)) := by decide +kernel

/-! ## One CPU tick (spec/95_test_vectors.md, Part 2) -/

/-- The start state of the vectors: pc 0x8000, the vectors at 0x9100, 0x8000 and 0x9000. -/
def base : State :=
  { State.reset with
    pc := 0x8000, cart := { Cart.blank with prg := [(0x7FFB, 0x91), (0x7FFD, 0x80), (0x7FFF, 0x90)] } }

/-- RAM with the listed bytes. -/
def ramOf (l : List Host.Cell) : Memory := l.foldl (fun m c => m.write c.1 c.2) []

/-- The state with instruction bytes at the pc. -/
def placed (bytes : List Byte) (s : State) : State := placeBytes s.pc bytes s

/-- One CPU tick from `s` with this RAM and these bytes at the pc returns `cycles` and reaches a state that `f` holds of. -/
def tick (ram : List Host.Cell) (s : State) (bytes : List Byte) (cycles : Nat) (f : State → Bool) : Bool :=
  match cpuTick (placed bytes { s with ram := ramOf ram }) with
  | .next t => f t && t.cycles == cycles
  | _ => false

/-- 2.1.3, 2.1.4. -/
theorem test_lda_indexed_wraps_and_crosses :
    (tick [(0x7F, 0x33)] { base with x := 0xFF, p := 0x24 } [0xB5, 0x80] 4 (fun t => t.a == 0x33 && t.p == 0x24) &&
    tick [(0x300, 0x44)] { base with x := 0x01, p := 0x24 } [0xBD, 0xFF, 0x12] 5 (fun t => t.a == 0x44)) = true := by decide +kernel

/-- 2.1.6, 2.1.7. -/
theorem test_lda_indirect_wraps_in_page_zero :
    (tick [(0xFF, 0xF8), (0x00, 0x02), (0x308, 0x77)] { base with y := 0x10, p := 0x24 } [0xB1, 0xFF] 6 (fun t => t.a == 0x77) &&
    tick [(0xFF, 0x10), (0x00, 0x03), (0x310, 0x99)] { base with x := 0x01, p := 0x24 } [0xA1, 0xFE] 6 (fun t => t.a == 0x99 && t.p == 0xA4)) = true := by decide +kernel

/-- 2.1.8. -/
theorem test_ldx_zeropageY_wraps :
    (tick [(0x01, 0x5A)] { base with y := 0x02, p := 0x24 } [0xB6, 0xFF] 4 (fun t => t.x == 0x5A)) = true := by decide +kernel

/-- 2.1.10. -/
theorem test_sta_lands_in_the_mirror_without_penalty :
    (tick [] { base with a := 0x42, y := 0x01, p := 0x24 } [0x99, 0xFF, 0x07] 5 (fun t => t.ram.read 0x000 == 0x42 && t.ram.read 0 == 0x42)) = true := by decide +kernel

/-- 2.1.11. -/
theorem test_txs_writes_no_flag :
    (tick [] { base with x := 0x00, p := 0xA4 } [0x9A] 2 (fun t => t.sp == 0x00 && t.p == 0xA4)) = true := by decide +kernel

/-- 2.1.12. -/
theorem test_tsx :
    (tick [] { base with sp := 0x80, p := 0x24 } [0xBA] 2 (fun t => t.x == 0x80 && t.p == 0xA4)) = true := by decide +kernel

/-- 2.1.13. -/
theorem test_tax :
    (tick [] { base with a := 0x00, x := 0x55, p := 0x24 } [0xAA] 2 (fun t => t.x == 0x00 && t.p == 0x26)) = true := by decide +kernel

/-- 2.1.14. -/
theorem test_tya :
    (tick [] { base with y := 0xF0, p := 0x24 } [0x98] 2 (fun t => t.a == 0xF0 && t.p == 0xA4)) = true := by decide +kernel

/-- 2.2.1, 2.2.3. -/
theorem test_adc_overflows_both_ways :
    (tick [] { base with a := 0x50, p := 0x24 } [0x69, 0x50] 2 (fun t => t.a == 0xA0 && t.p == 0xE4) &&
    tick [] { base with a := 0x80, p := 0x24 } [0x69, 0xFF] 2 (fun t => t.a == 0x7F && t.p == 0x65)) = true := by decide +kernel

/-- 2.2.5, 2.2.4. -/
theorem test_adc_ignores_decimal_and_carries_in :
    (tick [] { base with a := 0x00, p := 0x2C } [0x69, 0x05] 2 (fun t => t.a == 0x05 && t.p == 0x2C) &&
    tick [] { base with a := 0x7F, p := 0x25 } [0x69, 0x00] 2 (fun t => t.a == 0x80 && t.p == 0xE4)) = true := by decide +kernel

/-- 2.2.6, 2.2.7. -/
theorem test_sbc_borrows :
    (tick [] { base with a := 0x00, p := 0x25 } [0xE9, 0x01] 2 (fun t => t.a == 0xFF && t.p == 0xA4) &&
    tick [] { base with a := 0x80, p := 0x25 } [0xE9, 0x01] 2 (fun t => t.a == 0x7F && t.p == 0x65)) = true := by decide +kernel

/-- 2.2.10. -/
theorem test_and_zero :
    (tick [] { base with a := 0xF0, p := 0x24 } [0x29, 0x0F] 2 (fun t => t.a == 0x00 && t.p == 0x26)) = true := by decide +kernel

/-- 2.2.11. -/
theorem test_ora_negative :
    (tick [] { base with a := 0x01, p := 0x24 } [0x09, 0x80] 2 (fun t => t.a == 0x81 && t.p == 0xA4)) = true := by decide +kernel

/-- 2.2.12. -/
theorem test_eor_zero :
    (tick [] { base with a := 0xFF, p := 0x24 } [0x49, 0xFF] 2 (fun t => t.a == 0x00 && t.p == 0x26)) = true := by decide +kernel

/-- 2.2.13, 2.2.15. -/
theorem test_cmp_is_unsigned :
    (tick [] { base with a := 0x10, p := 0x24 } [0xC9, 0x20] 2 (fun t => t.p == 0xA4) &&
    tick [] { base with a := 0x80, p := 0x24 } [0xC9, 0x01] 2 (fun t => t.p == 0x25)) = true := by decide +kernel

/-- 2.2.16. -/
theorem test_cpx :
    (tick [] { base with x := 0x06, p := 0x24 } [0xE0, 0x05] 2 (fun t => t.p == 0x25)) = true := by decide +kernel

/-- 2.2.17. -/
theorem test_cpy :
    (tick [] { base with y := 0x00, p := 0x24 } [0xC0, 0xFF] 2 (fun t => t.p == 0x24)) = true := by decide +kernel

/-- 2.2.18, 2.2.19. -/
theorem test_bit_copies_n_and_v :
    (tick [(0x10, 0xC0)] { base with a := 0x01, p := 0x24 } [0x24, 0x10] 3 (fun t => t.p == 0xE6) &&
    tick [(0x10, 0x01)] { base with a := 0x41, p := 0xE4 } [0x24, 0x10] 3 (fun t => t.p == 0x24)) = true := by decide +kernel

/-- 2.2.20, 2.2.26. -/
theorem test_inc_wraps :
    (tick [(0x10, 0xFF)] { base with p := 0x24 } [0xE6, 0x10] 5 (fun t => t.ram.read 0x10 == 0x00 && t.p == 0x26) &&
    tick [(0x100, 0x7F)] { base with x := 0x01, p := 0x24 } [0xFE, 0xFF, 0x00] 7 (fun t => t.ram.read 0x100 == 0x80 && t.p == 0xA4)) = true := by decide +kernel

/-- 2.2.21. -/
theorem test_dec_wraps :
    (tick [(0x10, 0x00)] { base with p := 0x24 } [0xC6, 0x10] 5 (fun t => t.ram.read 0x10 == 0xFF && t.p == 0xA4)) = true := by decide +kernel

/-- 2.2.22. -/
theorem test_inx :
    (tick [] { base with x := 0xFF, p := 0x24 } [0xE8] 2 (fun t => t.x == 0x00 && t.p == 0x26)) = true := by decide +kernel

/-- 2.2.23. -/
theorem test_iny :
    (tick [] { base with y := 0x7F, p := 0x24 } [0xC8] 2 (fun t => t.y == 0x80 && t.p == 0xA4)) = true := by decide +kernel

/-- 2.2.24. -/
theorem test_dex :
    (tick [] { base with x := 0x01, p := 0x24 } [0xCA] 2 (fun t => t.x == 0x00 && t.p == 0x26)) = true := by decide +kernel

/-- 2.2.25. -/
theorem test_dey :
    (tick [] { base with y := 0x00, p := 0x24 } [0x88] 2 (fun t => t.y == 0xFF && t.p == 0xA4)) = true := by decide +kernel

/-- 2.3.1, 2.3.8. -/
theorem test_asl :
    (tick [] { base with a := 0x80, p := 0x24 } [0x0A] 2 (fun t => t.a == 0x00 && t.p == 0x27) &&
    tick [(0x110, 0x81)] { base with x := 0x20, p := 0x24 } [0x1E, 0xF0, 0x00] 7 (fun t => t.ram.read 0x110 == 0x02 && t.p == 0x25)) = true := by decide +kernel

/-- 2.3.4, 2.3.3. -/
theorem test_lsr :
    (tick [] { base with a := 0xFE, p := 0x24 } [0x4A] 2 (fun t => t.a == 0x7F && t.p == 0x24) &&
    tick [] { base with a := 0x01, p := 0x24 } [0x4A] 2 (fun t => t.a == 0x00 && t.p == 0x27)) = true := by decide +kernel

/-- 2.3.5, 2.3.7. -/
theorem test_rol :
    (tick [] { base with a := 0x80, p := 0x24 } [0x2A] 2 (fun t => t.a == 0x00 && t.p == 0x27) &&
    tick [(0x10, 0x55)] { base with p := 0x25 } [0x26, 0x10] 5 (fun t => t.ram.read 0x10 == 0xAB && t.p == 0xA4)) = true := by decide +kernel

/-- 2.3.6, 2.3.9. -/
theorem test_ror :
    (tick [] { base with a := 0x01, p := 0x25 } [0x6A] 2 (fun t => t.a == 0x80 && t.p == 0xA5) &&
    tick [(0x10, 0x01)] { base with p := 0x24 } [0x66, 0x10] 5 (fun t => t.ram.read 0x10 == 0x00 && t.p == 0x27)) = true := by decide +kernel

/-- 2.4.1, 2.4.2. -/
theorem test_bne_taken_and_not :
    (tick [] { base with p := 0x24 } [0xD0, 0x05] 3 (fun t => t.pc == 0x8007) &&
    tick [] { base with p := 0x26 } [0xD0, 0x05] 2 (fun t => t.pc == 0x8002)) = true := by decide +kernel

/-- 2.4.3. -/
theorem test_jmp_indirect_page_wrap :
    (tick [(0x2FF, 0x00), (0x200, 0x90), (0x300, 0x80)] { base with p := 0x24 } [0x6C, 0xFF, 0x02] 5 (fun t => t.pc == 0x9000)) = true := by decide +kernel

/-- 2.4.4. -/
theorem test_beq_backward :
    (tick [] { base with p := 0x26 } [0xF0, 0xFE] 3 (fun t => t.pc == 0x8000)) = true := by decide +kernel

/-- 2.4.7. -/
theorem test_bcs :
    (tick [] { base with p := 0x25 } [0xB0, 0x10] 3 (fun t => t.pc == 0x8012)) = true := by decide +kernel

/-- 2.4.8. -/
theorem test_bvc_not_taken :
    (tick [] { base with p := 0x64 } [0x50, 0x10] 2 (fun t => t.pc == 0x8002)) = true := by decide +kernel

/-- 2.4.9. -/
theorem test_bpl_furthest_forward :
    (tick [] { base with p := 0x24 } [0x10, 0x7F] 3 (fun t => t.pc == 0x8081)) = true := by decide +kernel

/-- 2.4.10. -/
theorem test_bvs :
    (tick [] { base with p := 0x64 } [0x70, 0x00] 3 (fun t => t.pc == 0x8002)) = true := by decide +kernel

/-- 2.4.11. -/
theorem test_bcc_backward_across_a_page :
    (tick [] { base with p := 0x24 } [0x90, 0xF0] 4 (fun t => t.pc == 0x7FF2)) = true := by decide +kernel

/-- 2.4.12. -/
theorem test_jmp_absolute :
    (tick [] { base with p := 0x24 } [0x4C, 0x34, 0x12] 3 (fun t => t.pc == 0x1234)) = true := by decide +kernel

/-- 2.4.13. -/
theorem test_jsr :
    (tick [] { base with sp := 0xFD, p := 0x24 } [0x20, 0x00, 0x90] 6 (fun t => t.ram.read 0x1FD == 0x80 && t.ram.read 0x1FC == 0x02 && t.sp == 0xFB && t.pc == 0x9000)) = true := by decide +kernel

/-- 2.4.14. -/
theorem test_rts :
    (tick [(0x1FC, 0x04), (0x1FD, 0x80)] { base with sp := 0xFB, p := 0x24 } [0x60] 6 (fun t => t.sp == 0xFD && t.pc == 0x8005)) = true := by decide +kernel

/-- 2.4.15. -/
theorem test_rti_drops_bits_4_and_5 :
    (tick [(0x1FB, 0xFF), (0x1FC, 0x34), (0x1FD, 0x12)] { base with sp := 0xFA, p := 0x24 } [0x40] 6 (fun t => t.sp == 0xFD && t.p == 0xEF && t.pc == 0x1234)) = true := by decide +kernel

/-- 2.4.16. -/
theorem test_brk :
    (tick [] { base with p := 0x20 } [0x00, 0xEE] 7 (fun t => t.sp == 0xFA && t.p == 0x24 && t.ram.read 0x1FD == 0x80 && t.ram.read 0x1FC == 0x02 && t.ram.read 0x1FB == 0x30 && t.pc == 0x9000)) = true := by decide +kernel

/-- 2.5.1. -/
theorem test_pha_wraps :
    (tick [] { base with a := 0x42, sp := 0x00, p := 0x24 } [0x48] 3 (fun t => t.ram.read 0x100 == 0x42 && t.sp == 0xFF)) = true := by decide +kernel

/-- 2.5.2. -/
theorem test_php_sets_bits_4_and_5 :
    (tick [] { base with p := 0x24 } [0x08] 3 (fun t => t.ram.read 0x1FD == 0x34 && t.sp == 0xFC)) = true := by decide +kernel

/-- 2.5.3. -/
theorem test_pla_wraps :
    (tick [(0x100, 0x80)] { base with sp := 0xFF, p := 0x24 } [0x68] 4 (fun t => t.a == 0x80 && t.sp == 0x00 && t.p == 0xA4)) = true := by decide +kernel

/-- 2.5.4, 2.5.5. -/
theorem test_plp :
    (tick [(0x1FD, 0xFF)] { base with sp := 0xFC, p := 0x24 } [0x28] 4 (fun t => t.sp == 0xFD && t.p == 0xEF) &&
    tick [(0x1FD, 0x00)] { base with sp := 0xFC, p := 0x24 } [0x28] 4 (fun t => t.p == 0x20)) = true := by decide +kernel

/-- 2.5.6. -/
theorem test_clc :
    (tick [] { base with p := 0xEF } [0x18] 2 (fun t => t.p == 0xEE)) = true := by decide +kernel

/-- 2.5.7. -/
theorem test_sec :
    (tick [] { base with p := 0x24 } [0x38] 2 (fun t => t.p == 0x25)) = true := by decide +kernel

/-- 2.5.8. -/
theorem test_cli :
    (tick [] { base with p := 0x24 } [0x58] 2 (fun t => t.p == 0x20)) = true := by decide +kernel

/-- 2.5.9. -/
theorem test_sei :
    (tick [] { base with p := 0x20 } [0x78] 2 (fun t => t.p == 0x24)) = true := by decide +kernel

/-- 2.5.10. -/
theorem test_cld :
    (tick [] { base with p := 0x2C } [0xD8] 2 (fun t => t.p == 0x24)) = true := by decide +kernel

/-- 2.5.11. -/
theorem test_sed :
    (tick [] { base with p := 0x24 } [0xF8] 2 (fun t => t.p == 0x2C)) = true := by decide +kernel

/-- 2.5.12. -/
theorem test_clv :
    (tick [] { base with p := 0x64 } [0xB8] 2 (fun t => t.p == 0x24)) = true := by decide +kernel

/-- 2.5.13. -/
theorem test_nop :
    (tick [] { base with p := 0x24 } [0xEA] 2 (fun t => t.pc == 0x8001)) = true := by decide +kernel

/-- 2.6.1, 2.6.2. -/
theorem test_nop_unofficial_reads_and_crosses :
    (tick [] { base with p := 0x24 } [0x04, 0x10] 3 (fun t => t.pc == 0x8002) &&
    tick [] { base with x := 0x01, p := 0x24 } [0x1C, 0xFF, 0x00] 5 (fun t => t.pc == 0x8003)) = true := by decide +kernel

/-- 2.6.3. -/
theorem test_lax :
    (tick [(0x10, 0x80)] { base with p := 0x24 } [0xA7, 0x10] 3 (fun t => t.a == 0x80 && t.x == 0x80 && t.p == 0xA4)) = true := by decide +kernel

/-- 2.6.4. -/
theorem test_sax :
    (tick [] { base with a := 0xF0, x := 0x3C, p := 0x24 } [0x87, 0x10] 3 (fun t => t.ram.read 0x10 == 0x30)) = true := by decide +kernel

/-- 2.6.5. -/
theorem test_sbc_EB :
    (tick [] { base with a := 0x10, p := 0x25 } [0xEB, 0x01] 2 (fun t => t.a == 0x0F && t.p == 0x25)) = true := by decide +kernel

/-- 2.6.6, 2.6.7. -/
theorem test_dcp :
    (tick [(0x10, 0x06)] { base with a := 0x05, p := 0x24 } [0xC7, 0x10] 5 (fun t => t.ram.read 0x10 == 0x05 && t.p == 0x27) &&
    tick [(0x10, 0xF0), (0x11, 0x00), (0x110, 0x01)] { base with y := 0x20, p := 0x24 } [0xD3, 0x10] 8 (fun t => t.ram.read 0x110 == 0x00 && t.p == 0x27)) = true := by decide +kernel

/-- 2.6.8. -/
theorem test_isb :
    (tick [(0x10, 0x0F)] { base with a := 0x10, p := 0x25 } [0xE7, 0x10] 5 (fun t => t.ram.read 0x10 == 0x10 && t.a == 0x00 && t.p == 0x27)) = true := by decide +kernel

/-- 2.6.9. -/
theorem test_slo :
    (tick [(0x10, 0x81)] { base with a := 0x01, p := 0x24 } [0x07, 0x10] 5 (fun t => t.ram.read 0x10 == 0x02 && t.a == 0x03 && t.p == 0x25)) = true := by decide +kernel

/-- 2.6.10. -/
theorem test_rla :
    (tick [(0x10, 0x40)] { base with a := 0xFF, p := 0x25 } [0x27, 0x10] 5 (fun t => t.ram.read 0x10 == 0x81 && t.a == 0x81 && t.p == 0xA4)) = true := by decide +kernel

/-- 2.6.11. -/
theorem test_sre :
    (tick [(0x10, 0x03)] { base with a := 0x01, p := 0x24 } [0x47, 0x10] 5 (fun t => t.ram.read 0x10 == 0x01 && t.a == 0x00 && t.p == 0x27)) = true := by decide +kernel

/-- 2.6.12. -/
theorem test_rra :
    (tick [(0x10, 0x03)] { base with a := 0x10, p := 0x24 } [0x67, 0x10] 5 (fun t => t.ram.read 0x10 == 0x01 && t.p == 0x24 && t.a == 0x12)) = true := by decide +kernel

/-- 2.6.13. -/
theorem test_kil_keeps_the_pc :
    (tick [] { base with p := 0x24 } [0x02] 0 (fun t => t.pc == 0x8000 && !t.running)) = true := by decide +kernel

/-- 2.6.14. -/
theorem test_lax_outside_the_set_halts :
    (tick [] { base with p := 0x24, params := { Params.reference with unofficialSet := [] } } [0xA7, 0x10] 0 (fun t => t.pc == 0x8000 && !t.running)) = true := by decide +kernel

/-- R182: LDY #$7F. -/
theorem test_ldy_stops_at_no_carry :
    tick [] { base with p := 0xA6 } [0xA0, 0x7F] 2 (fun t => t.y == 0x7F && t.p == 0x24) = true := by decide +kernel

/-- R184: STX $FF,Y wraps in page zero. -/
theorem test_stx_zeropageY :
    tick [] { base with x := 0x5A, y := 0x02 } [0x96, 0xFF] 4 (fun t => t.ram.read 0x01 == 0x5A && t.p == 0x24) = true := by decide +kernel

/-- R185. -/
theorem test_sty_absolute :
    tick [] { base with y := 0x33, p := 0x27 } [0x8C, 0x10, 0x02] 4 (fun t => t.ram.read 0x210 == 0x33 && t.p == 0x27) = true := by decide +kernel

/-- R187. -/
theorem test_tay :
    tick [] { base with a := 0x80, y := 0x01 } [0xA8] 2 (fun t => t.y == 0x80 && t.p == 0xA4) = true := by decide +kernel

/-- R188. -/
theorem test_txa :
    tick [] { base with x := 0x00, a := 0x01 } [0x8A] 2 (fun t => t.a == 0x00 && t.p == 0x26) = true := by decide +kernel

/-- R242. -/
theorem test_bmi_not_taken :
    tick [] base [0x30, 0x80] 2 (fun t => t.pc == 0x8002) = true := by decide +kernel

/-! ## Memory, mappers and loading -/

/-- 2.1.15: a store to no region is recorded; under the halt policy the step ends there, past the instruction. -/
theorem test_illegal_store :
    (tick [] { base with a := 0x42 } [0x8D, 0x00, 0x40] 4
        (fun t => t.faults == [.busFault 0x4000 .write] && t.pc == 0x8003 && t.ram == []) &&
      tick [] { base with params := { Params.reference with busFaultPolicy := .halt } } [0x8D, 0x00, 0x40] 0
        (fun t => t.faults == [.busFault 0x4000 .write] && t.pc == 0x8003 && t.haltFault)) = true := by decide +kernel

/-- 1.3: ReadWordBug and ReadWord of 0x01FF; 2.7.7: ReadWord of 0xFFFF wraps to 0x0000. -/
theorem test_words :
    (let s := { base with ram := ramOf [(0x1FF, 0x34), (0x100, 0x12), (0x200, 0x56), (0x000, 0x78)] }
     match readWordBug 0x01FF s, readWord 0x01FF s, readWord 0xFFFF s with
      | .ok b _, .ok w _, .ok t _ => b == 0x1234 && w == 0x5634 && t == 0x7890
      | _, _, _ => false) = true := by decide +kernel

/-- 2.7.5, 2.7.6: one PRG bank is seen twice, two once. -/
theorem test_prg_mirror :
    { Cart.blank with nPrg := 1, prg := [(0x0123, 0x5A)] }.cpuRead 0xC123 = 0x5A ∧
      { Cart.blank with prg := [(0x0123, 0x5A)] }.cpuRead 0xC123 = 0x00 ∧
      { Cart.blank with prg := [(0x4123, 0x5A)] }.cpuRead 0xC123 = 0x5A := by decide +kernel

/-- 1.4, 2.7.11. -/
theorem test_mirroring :
    { Cart.blank with mirror := .horizontal }.ntIndex 0x2C05 = 0x405 ∧ { Cart.blank with mirror := .vertical }.ntIndex 0x2C05 = 0x405 ∧
      { Cart.blank with mirror := .single0 }.ntIndex 0x2C05 = 0x005 ∧ { Cart.blank with mirror := .single1 }.ntIndex 0x2C05 = 0x405 ∧
      { Cart.blank with mirror := .horizontal }.ntIndex 0x2400 = 0 ∧ { Cart.blank with mirror := .vertical }.ntIndex 0x2400 = 0x400 := by
  decide +kernel

/-- 2.7.8, 2.7.9. -/
theorem test_palette_mirrors :
    ppuRead 0x3F00 (ppuWrite 0x3F10 0x0F base) = 0x0F ∧ ppuRead 0x3F05 (ppuWrite 0x3F25 0x11 base) = 0x11 := by decide +kernel

/-- The cartridge of 2.8. -/
def mapper1 : Cart := { Cart.blank with kind := .shiftBanked, nPrg := 8, nChr := 16 }

/-- `ser(a, v)` of 2.8. -/
def ser (a : Word) (v : Nat) (c : Cart) : Cart :=
  [0, 1, 2, 3, 4].foldl (fun c k => c.cpuWrite a (BitVec.ofNat 8 (v / 2 ^ k % 2))) c

/-- 1.5, 2.8.10, 2.8.11. -/
theorem test_serial_port :
    (let w := fun a d (c : Cart) => c.cpuWrite a d
     w 0xA000 0x80 (w 0xA000 0x00 (w 0xA000 0x01 (w 0xA000 0x01 (w 0xA000 0x00 (w 0xA000 0x01 mapper1))))) =
          { mapper1 with chr0 := 13 } ∧
        w 0xE000 0x80 (w 0xE000 0x01 (w 0xE000 0x00 (w 0xE000 0x01 { mapper1 with control := 0 }))) = mapper1 ∧
        w 0xE000 0x01 (w 0x8000 0x01 (w 0x8000 0x01 (w 0x8000 0x01 (w 0x8000 0x01 mapper1)))) = { mapper1 with prgReg := 31 }) := by
  decide +kernel

/-- 2.8.5 to 2.8.9: control, mirroring and the banks. -/
theorem test_banks :
    (let c1 := ser 0xE000 5 mapper1
     let c2 := ser 0x8000 0x11 (ser 0xE000 0x0F c1)
     let c3 := ser 0x8000 0x03 (ser 0xC000 7 (ser 0xA000 3 c2))
     c1.prgIndex 0x8000 / 0x4000 = 5 ∧ c1.prgIndex 0xC000 / 0x4000 = 7 ∧ c2.mirror = .single1 ∧ c2.prgIndex 0x8000 / 0x4000 = 6 ∧
        c2.prgIndex 0xC000 / 0x4000 = 7 ∧ c2.chrIndex 0x1000 / 0x1000 = 0 ∧ c3.mirror = .horizontal ∧
        c3.chrIndex 0x0000 / 0x1000 = 3 ∧ c3.chrIndex 0x1000 / 0x1000 = 4) := by decide +kernel

/-- 2.9.1 to 2.9.3: the refused images. -/
theorem test_refused_images :
    (let load := fun image => match loadGame (fun _ _ => 0) (fun _ => 0) Params.reference image with
        | .error e => some e
        | .ok _ => none
     load (List.replicate 10 0) = some .shortHeader ∧ load (List.replicate 16 0) = some .noPrg ∧
        load ([0x4E, 0x45, 0x53, 0x1A, 1, 0] ++ List.replicate 10 0) = some .chrRamUnsupported) := by decide +kernel

/-- 2.9.4 to 2.9.8: the mapper, the fallbacks and both warnings. -/
theorem test_mapper_selection :
    mapperId 0x11 0x00 = 1 ∧ headerMirror 0x11 = .vertical ∧ mapperId 0x10 0x10 = 0x11 ∧
      selectMapper 1 (imageLength 2 1) (imageLength 2 1) = (.shiftBanked, []) ∧
      selectMapper 4 (imageLength 1 1) (imageLength 1 1) = (.fixed, [.mapperFallback 4]) ∧
      selectMapper 1 116 (imageLength 1 1) = (.fixed, [.truncatedBody 116]) ∧
      selectMapper 4 116 (imageLength 1 1) = (.fixed, [.mapperFallback 4, .truncatedBody 116]) ∧
      imageBytes (fun k => BitVec.ofNat 8 k) [9, 8, 7] 1 4 = [8, 7, 3, 4] := by decide +kernel

/-! ## The PPU's ports and the controller -/

/-- The state after CPU writes. -/
def writes (l : List (Word × Byte)) (s : State) : State := l.foldl (fun u w => (cpuWrite w.1 w.2 u).state) s

/-- A change of the PPU. -/
def withPpu (f : Ppu → Ppu) (s : State) : State := { s with ppu := f s.ppu }

/-- 2.10.1: the top bits of the status, and what the read clears. -/
theorem test_status_read :
    (match cpuRead 0x2002 (withPpu (fun q => { q with vblank := true, sprite0Hit := true, w := true }) base) with
      | .ok _ t => t.ppu.vblank == false && t.ppu.sprite0Hit && t.ppu.w == false
      | .stop _ => false) = true := by decide +kernel

/-- 2.10.2, 2.10.3, 2.10.4, 2.10.7. -/
theorem test_scroll_and_address_writes :
    (writes [(0x2000, 0x03)] base).ppu.t = 0x0C00 ∧
      (let q := (writes [(0x2005, 0x7D), (0x2005, 0x5E)] base).ppu
       q.t = 0x616F ∧ q.x = 5 ∧ q.w = false) ∧
      (let q := (writes [(0x2006, 0x3F), (0x2006, 0x10)] base).ppu
       q.t = 0x3F10 ∧ q.v = 0x3F10) ∧
      (let q := (writes [(0x2005, 0x08), (0x2006, 0x21)] base).ppu
       q.t = 0x0021 ∧ q.v = 0x0021 ∧ q.w = false) := by decide +kernel

/-- 2.10.8, 2.10.9, 2.10.11: the buffered read, and the data port's increments. -/
theorem test_data_port :
    (match cpuRead 0x2007 (withPpu (fun q => { q with v := 0x2000 }) { base with ntRam := [(0, 0xAB), (1, 0xCD)] }) with
      | .ok r t => r == 0x00 && t.ppu.readBuffer == 0xAB && t.ppu.v == 0x2001
      | .stop _ => false) = true ∧
      (let t := writes [(0x2007, 0x11), (0x2007, 0x11)] (withPpu (fun q => { q with v := 0x2000, ctrl := 0x04 }) base)
       t.ntRam = [(0x000, 0x11), (0x020, 0x11)] ∧ t.ppu.v = 0x2040) ∧
      (let t := writes [(0x3FFF, 0x22)] (withPpu (fun q => { q with v := 0x7FFF }) base)
       t.palRam = [(0x1F, 0x22)] ∧ t.ppu.v = 0x0000) := by decide +kernel

/-- 2.10.10: a palette read is immediate and fills the buffer from below. -/
theorem test_palette_read :
    (match cpuRead 0x2007 (withPpu (fun q => { q with v := 0x3F00 }) { base with palRam := [(0, 0x0F)], ntRam := [(0x700, 0x99)] }) with
      | .ok r t => r == 0x0F && t.ppu.readBuffer == 0x99
      | .stop _ => false) = true := by decide +kernel

/-- 2.10.14: OAM-DMA from page 2 with oamAddr 4, and the cycles of the store. -/
theorem test_oam_dma :
    tick [(0x200, 0x11), (0x2FB, 0x22), (0x2FC, 0x33), (0x2FF, 0x44)] (withPpu (fun q => { q with oamAddr := 0x04 }) { base with a := 0x02 })
      [0x8D, 0x14, 0x40] 4
      (fun t => t.ppu.oam == [(0x00, 0x33), (0x03, 0x44), (0x04, 0x11), (0xFF, 0x22)] && t.ppu.oamAddr == 0x04) = true := by
  decide +kernel

/-- 2.10.15: 255 faults and one controller read. -/
theorem test_oam_dma_of_an_illegal_page :
    (let t := writes [(0x4014, 0x40)] base
     t.faults.length = 255 ∧ t.index = 1) := by decide +kernel

/-- 2.10.17: with the strobe set the index stays 0. -/
theorem test_strobe :
    (writes [(0x4016, 0x01)] { base with index := 5 }).index = 0 ∧
      (cpuRead 0x4016 { base with strobe := 1 }).state.index = 0 ∧ (cpuRead 0x4016 { base with index := 7 }).state.index = 0 := by
  decide +kernel

/-! ## The PPU's ticks -/

/-- The state after one PPU tick at this scanline and cycle. -/
def tickAt (line cycle : Nat) (f : Ppu → Ppu) : State :=
  ppuTick (withPpu (fun q => { f q with scanline := line, cycle := cycle }) base)

/-- 2.11: vblank and NMI at (241, 1), the clear at (261, 1), the wrap at (261, 340). -/
theorem test_vblank_and_wrap :
    (let t := tickAt 241 1 fun q => { q with ctrl := 0x80 }
     t.ppu.vblank = true ∧ t.pending = some .nmi ∧ t.ppu.cycle = 2) ∧
      (tickAt 261 1 fun q => { q with vblank := true, sprite0Hit := true }).ppu.vblank = false ∧
      (let q := (tickAt 261 340 id).ppu
       q.scanline = 0 ∧ q.cycle = 0 ∧ q.front = 1) := by decide +kernel

/-- 2.12.1 to 2.12.3. -/
theorem test_attribute_address :
    (let at_ := fun v => ({ Ppu.initial with v := v }.atAddr, { Ppu.initial with v := v }.atShift)
     at_ 0x0043 = (0x23C0, 6) ∧ at_ 0x0525 = (0x27D1, 0) ∧ at_ 0x03BF = (0x23FF, 2)) := by decide +kernel

/-- 2.12.4 to 2.12.8. -/
theorem test_scroll_updates :
    incX 0x001F = 0x0400 ∧ incY 0x73A0 = 0x0800 ∧ incY 0x73E0 = 0x0000 ∧ incY 0x2000 = 0x3000 ∧
      { Ppu.initial with v := 0x7FFF }.copyX.v = 0x7BE0 := by decide +kernel

/-- 2.12.9, 2.12.10. -/
theorem test_sprite_address :
    Ppu.initial.spriteAddr 0x23 0x00 10 16 = 0x1232 ∧ Ppu.initial.spriteAddr 0x23 0x80 10 16 = 0x1225 ∧
      { Ppu.initial with ctrl := 0x08 }.spriteAddr 0x05 0x80 3 8 = 0x1054 := by decide +kernel

/-- 2.12.11: the ninth sprite on a line sets overflow. -/
theorem test_sprite_overflow :
    (let oam := fun n => Memory.ofBytes 0 (List.replicate (4 * n) 10 ++ List.replicate (256 - 4 * n) 0xFF)
     (tickAt 10 257 fun q => { q with mask := 0x18, oam := oam 9 }).ppu.spriteOverflow = true ∧
        (tickAt 10 257 fun q => { q with mask := 0x18, oam := oam 8 }).ppu.spriteOverflow = false) := by decide +kernel

/-- The composition table of 2.12. -/
theorem test_composition :
    composeColor 0x0 .transparent = 0x00 ∧ composeColor 0x0 (.solid 2 1 true) = 0x19 ∧ composeColor 0x7 .transparent = 0x07 ∧
      composeColor 0x7 (.solid 2 1 true) = 0x19 ∧ spriteZeroHit 0x7 (.solid 2 1 true) 8 = true ∧
      spriteZeroHit 0x7 (.solid 2 1 true) 255 = false ∧ spriteZeroHit 0x0 (.solid 2 1 true) 8 = false := by decide +kernel

/-- 2.12, the left column: with mask 0x18 neither layer shows at x = 3, so the backdrop is put out and no hit is set. -/
theorem test_left_column :
    (let t := ppuTick (withPpu (fun q => { q with
          mask := 0x18, cycle := 4, scanline := 7, tileData := 0x7777777700000000, spriteLine := [(3, .solid 2 1 true)] })
        { base with palRam := [(0x00, 0x21), (0x07, 0x11), (0x19, 0x12)] })
     framePixel t.ppu.frame1 3 7 = 0x21 ∧ t.ppu.sprite0Hit = false) := by decide +kernel

/-! ## Interrupts, reset and the driver loop -/

/-- 2.11.1: NMI service, in a step. -/
theorem test_nmi_service :
    (match step { base with pc := 0x8005, p := 0x26, pending := some .nmi } with
      | .next t => t.ram == [(0x1FB, 0x26), (0x1FC, 0x05), (0x1FD, 0x80)] && t.sp == 0xFA && t.pc == 0x9100 && t.pending == none &&
          t.ppu.cycle == 0
      | _ => false) = true := by decide +kernel

/-- 2.11.4: a masked IRQ waits while the instruction runs; unmasked it is serviced, with bit 4 clear in the pushed status. -/
theorem test_irq_masked_and_serviced :
    (match step (placed [0xEA] { base with pending := some .irq }) with
      | .next t => t.pc == 0x8001 && t.pending == some .irq && t.ppu.cycle == 6
      | _ => false) = true ∧
      (match step { base with p := 0x20, pending := some .irq } with
        | .next t => t.ram.read 0x1FB == 0x20 && t.p == 0x24 && t.pc == 0x9000
        | _ => false) = true := by decide +kernel

/-- 2.13.1, 2.13.2. -/
theorem test_reset_keeps_memory :
    (match step { base with
        a := 0x12, sp := 0x40, p := 0xE7, ram := [(0, 0x55)], running := false, haltCause := some 0x02, faults := [.halt 0x02], host := [.reset] } with
      | .next t => t.a == 0 && t.sp == 0xFD && t.p == 0x24 && t.pc == 0x8000 && t.running && t.haltCause == none &&
          t.ram == [(0, 0x55)] && t.faults == [.halt 0x02]
      | _ => false) = true := by decide +kernel

/-- R401, R406: after a halt no agent steps. -/
theorem test_halted :
    (match step { base with running := false, haltCause := some 0x02 } with
      | .fault f => f == .halted (some 0x02)
      | _ => false) = true := by decide +kernel

/-- 1.7: the first instruction placed after reset runs in the next step. -/
theorem test_with_fetch_word :
    (match step (State.reset.withFetchWord 16 0x0569) with
      | .next t => t.a == 0x05 && t.pc == 0x0002 && t.p == 0x24 && t.ppu.cycle == 6
      | _ => false) = true := by decide +kernel

/-! ## Witnesses: states that meet the hypotheses of the statements -/

/-- The CPU step ends at a fault. -/
def haltPolicy : Params := { Params.reference with busFaultPolicy := .halt }

/-- DecodeOfEncode. -/
theorem witness_decode_of_encode : (Instr.rra (.indY 0xFF)).wellFormed = true := by decide

/-- StepRunsTheDecodedInstruction: two bytes at the pc, with an empty host list. -/
theorem witness_step_runs :
    (Instr.lda (.imm 0x80)).wellFormed = true ∧ stopReason (placed [0xA9, 0x80] base) = none ∧
      interruptToService (placed [0xA9, 0x80] base) = none ∧
      (∀ (k : Nat) (b : Byte), (encode (.lda (.imm 0x80)))[k]? = some b →
        byteAt ((placed [0xA9, 0x80] base).pc + BitVec.ofNat 16 k) (placed [0xA9, 0x80] base) = some b) ∧
      (∃ t, exec (.lda (.imm 0x80)) (placed [0xA9, 0x80] base) = .next t) ∧ (placed [0xA9, 0x80] base).host = [] := by
  refine ⟨by decide, by decide, by decide, ?_, ⟨_, rfl⟩, rfl⟩
  intro k b h
  match k, h with
  | 0, h => cases h; decide +kernel
  | 1, h => cases h; decide +kernel
  | k + 2, h => simp [encode, Instr.operands, ReadOperand.bytes] at h

/-- FetchReadsTheBytesInOrder: a halting opcode, and opcodes with none, one and two operand bytes, the last with its operand
bytes at 0xFFFF and 0x0000. -/
theorem witness_fetch :
    interruptToService base = none ∧
      (∃ t, cpuRead 0x8000 (placed [0x02] base) = .ok 0x02 t) ∧ haltsOn 0x02 Params.reference = true ∧
      (∃ t, cpuRead 0x8000 (placed [0xE8] base) = .ok 0xE8 t) ∧ haltsOn 0xE8 Params.reference = false ∧ operandBytes 0xE8 = 0 ∧
      (∃ t, cpuRead 0x8000 (placed [0xA9] base) = .ok 0xA9 t) ∧ haltsOn 0xA9 Params.reference = false ∧ operandBytes 0xA9 = 1 ∧
      haltsOn 0xAD Params.reference = false ∧ operandBytes 0xAD = 2 ∧
      (let s := placed [0xAD, 0x34, 0x12] { base with pc := 0xFFFE }
       ∃ s1 s2 s3, cpuRead s.pc s = .ok 0xAD s1 ∧ cpuRead (s.pc + 1) s1 = .ok 0x34 s2 ∧ cpuRead (s.pc + 2) s2 = .ok 0x12 s3) := by
  refine ⟨by decide, ⟨_, rfl⟩, by decide, ⟨_, rfl⟩, by decide, by decide, ⟨_, rfl⟩, by decide, by decide, by decide, by decide, ?_⟩
  exact ⟨_, _, _, rfl, rfl, rfl⟩

/-- FetchReadsTheBytesInOrder, under the halt policy: no opcode at 0x5FFF; and an opcode in the read buffer that the last PPU port
gives, with its first operand byte at 0x4000. -/
theorem witness_fetch_faults :
    (let s := withPpu (fun q => { q with readBuffer := 0xAD }) { base with pc := 0x3FFF, params := haltPolicy }
     s.params.busFaultPolicy = .halt ∧ interruptToService s = none ∧ readable ({ s with pc := 0x5FFF } : State).pc = false ∧
        (∃ s1, cpuRead s.pc s = .ok 0xAD s1) ∧ haltsOn 0xAD s.params = false ∧ operandBytes 0xAD = 2 ∧
        readable (s.pc + 1) = false) :=
  ⟨by decide, by decide, by decide, ⟨_, rfl⟩, by decide +kernel, by decide, by decide⟩

/-- The state that fetches its opcode from PPU port 6, with `n` draws taken. -/
def fetchFromPort6 (n : Nat) : State := { base with pc := 0x3FFE, params := haltPolicy, draws := n }

/-- The same, with the second operand byte at 0x4000. The opcode is then at 0x3FFE, where only an open-bus draw can be read: any
draw of a three-byte opcode meets the premises. -/
theorem witness_fetch_faults_second (n : Nat) (h : Config.ppuOpenBus n = 0xAD) :
    interruptToService (fetchFromPort6 n) = none ∧ operandBytes 0xAD = 2 ∧
      cpuRead (fetchFromPort6 n).pc (fetchFromPort6 n) = .ok 0xAD (fetchFromPort6 (n + 1)) ∧
      (∃ b1 s2, cpuRead ((fetchFromPort6 n).pc + 1) (fetchFromPort6 (n + 1)) = .ok b1 s2) ∧
      readable ((fetchFromPort6 n).pc + 2) = false :=
  ⟨rfl, by decide, by simp [cpuRead, fetchFromPort6, ppuPortRead, Bus.ofPair, State.nextDraw, h], ⟨_, _, rfl⟩, rfl⟩

/-- InterruptIsServiced: an NMI with I set, an IRQ with I clear. -/
theorem witness_interrupt :
    (base.host = [] ∧ stopReason { base with pending := some .nmi } = none ∧ getFlag .i base.p = true) ∧
      (stopReason { base with p := 0x20, pending := some .irq } = none ∧ getFlag .i (0x20 : Byte) = false) := by decide

/-- OpcodesThatHaltTheCpu: the first and the last halting opcode, and an unofficial one outside the set. -/
theorem witness_halting :
    (Instr.kil 0x02).wellFormed = true ∧ (∃ op, (op, Instr.kil 0x02) ∈ haltingInstrs) ∧ Instr.axs.wellFormed = true ∧
      (∃ op, (op, Instr.axs) ∈ haltingInstrs) ∧ (Instr.lax (.zp 0x10)).wellFormed = true ∧
      unofficialOpcodes.contains (Instr.lax (.zp 0x10)).opcode = true ∧
      { Params.reference with unofficialSet := [] }.unofficialSet.contains (Instr.lax (.zp 0x10)).opcode = false ∧ base.host = [] :=
  ⟨by decide, ⟨0x02, by decide⟩, by decide, ⟨0xCB, by decide⟩, by decide, by decide, by decide, rfl⟩

/-- HaltPolicyEndsTheInstructionAtTheAccess, at the ends of the illegal ranges; 0x4014 is illegal to read alone. -/
theorem witness_halt_policy :
    (Instr.lda (.mem (.abs 0x4000))).wellFormed = true ∧ haltsOn (Instr.lda (.mem (.abs 0x4000))).opcode haltPolicy = false ∧
      [(0x4000 : Word), 0x4014, 0x4015, 0x4017, 0x5FFF].all (fun a => !readable (addressed (.abs a) base).addr) = true ∧
      (Instr.sax (.abs 0x5FFF)).wellFormed = true ∧ haltsOn (Instr.sax (.abs 0x5FFF)).opcode haltPolicy = false ∧
      [(0x4000 : Word), 0x4013, 0x4015, 0x4017, 0x5FFF].all (fun a => !writable (addressed (.abs a) base).addr) = true := by decide

/-- HaltPolicyEndsTheInstructionAtTheAccess: an unofficial NOP, a store that starts a transfer from the first and the last page of
no region, and JMP through the one pointer whose first byte alone can be read. -/
theorem witness_halt_policy_rest :
    (Instr.nopUnofficial 0x0C (.mem (.abs 0x4000))).wellFormed = true ∧ haltsOn 0x0C haltPolicy = false ∧
      (addressed (.abs 0x4014) base).addr = 0x4014 ∧ haltsOn (Instr.sta (.abs 0x4014)).opcode haltPolicy = false ∧
      0x40 ≤ (0x40 : Byte).toNat ∧ (0x5F : Byte).toNat ≤ 0x5F ∧
      (Instr.jmp (.ind 0x4000)).wellFormed = true ∧ haltsOn (Instr.jmp (.ind 0x4000)).opcode haltPolicy = false ∧
      readable 0x40FF = false ∧ (∃ lo s1, cpuRead 0x4016 base = .ok lo s1) ∧
      readable (BitVec.ofNat 16 ((0x4016 : Word).toNat / 256 * 256 + ((0x4016 : Word).toNat + 1) % 256)) = false :=
  ⟨by decide, by decide, by decide, by decide, by decide, by decide, by decide, by decide, by decide, ⟨_, _, rfl⟩, by decide⟩

/-- WordReadsAndThePageWrap, at the end of a page and of the address space. -/
theorem witness_words :
    (∃ lo s1 hi s2, cpuRead 0x01FF base = .ok lo s1 ∧ cpuRead 0x0200 s1 = .ok hi s2) ∧
      (∃ lo s1 hi s2, cpuRead 0x01FF base = .ok lo s1 ∧ cpuRead 0x0100 s1 = .ok hi s2) ∧
      (∃ lo s1 hi s2, cpuRead 0xFFFF base = .ok lo s1 ∧ cpuRead 0x0000 s1 = .ok hi s2) :=
  ⟨⟨_, _, _, _, rfl, rfl⟩, ⟨_, _, _, _, rfl, rfl⟩, ⟨_, _, _, _, rfl, rfl⟩⟩

/-- PageCrossPenaltyForms: a form with the penalty and a store without. -/
theorem witness_page_cross :
    (Instr.lda (.mem (.absX 0x12FF))).wellFormed = true ∧ pagePenalty (.lda (.mem (.absX 0x12FF))) true = 1 ∧
      (Instr.sta (.absX 0x12FF)).wellFormed = true ∧ pagePenalty (.sta (.absX 0x12FF)) true = 0 := by decide +kernel

/-- EveryInstructionAnswersANextState: the bound on the cycles is met. -/
theorem witness_cycles :
    (Instr.dcp (.indY 0x10)).wellFormed = true ∧ (Instr.dcp (.indY 0x10)).row.cycles = 8 ∧ ∃ t, exec (.dcp (.indY 0x10)) base = .next t :=
  ⟨by decide, by decide +kernel, ⟨_, rfl⟩⟩

/-- The statements about read-class instructions, official and unofficial: immediate, from memory under the halt policy, and from
no region under record_and_continue. -/
theorem witness_operand_answers :
    operandAnswers (.imm 0x80) base = true ∧ operandAnswers (.mem (.abs 0x2002)) { base with params := haltPolicy } = true ∧
      operandAnswers (.mem (.abs 0x4016)) { base with params := haltPolicy } = true ∧ operandAnswers (.mem (.abs 0x4017)) base = true ∧
      readAnswers (addressed (.indY 0xFF) base).addr { base with params := haltPolicy } = true := by decide +kernel

/-- StoresWriteTheEffectiveAddress, SAX: RAM, OAM-DMA from a page of RAM, and no region. -/
theorem witness_write_answers :
    writeAnswers 0x1FFF 0x42 { base with params := haltPolicy } = true ∧
      writeAnswers 0x4014 0x1F { base with params := haltPolicy } = true ∧ writeAnswers 0x4014 0x40 base = true ∧
      writeAnswers 0x5FFF 0x42 base = true := by decide +kernel

/-- StoresChangeOneByteOfMemory: RAM and save RAM, at the ends of the ranges, and ROM. -/
theorem witness_stores :
    base.memoriesWf = true ∧ haltsOn (Instr.sta (.abs 0x1FFF)).opcode base.params = false ∧
      (Instr.sta (.abs 0x1FFF)).wellFormed = true ∧ (∃ t, exec (.sta (.abs 0x1FFF)) base = .next t) ∧
      [(0x0000 : Word), 0x1FFF, 0x6000, 0x7FFF].all (fun a => storesByte (addressed (.abs a) base).addr) = true ∧
      [(0x2000 : Word), 0x4014, 0x5FFF, 0x8000].all (fun a => !storesByte (addressed (.abs a) base).addr) = true ∧
      base.cart.kind = .fixed ∧ (∃ t, exec (.sta (.abs 0x8000)) base = .next t) ∧
      sameCell 0x1FFF 0x07FF = true ∧ sameCell 0x1FFF 0x0000 = false :=
  ⟨by decide, by decide, by decide, ⟨_, rfl⟩, by decide, by decide, rfl, ⟨_, rfl⟩, by decide, by decide⟩

/-- AddAndSubtractWithCarry, the unofficial SBC. -/
theorem witness_sbc_EB : base.params.unofficialSet.contains 0xEB = true := by decide

/-- ShiftsAndRotates: every shift is in the list. -/
theorem witness_shifts :
    (ShiftKind.asl, Instr.asl) ∈ [(ShiftKind.asl, Instr.asl), (.lsr, Instr.lsr), (.rol, Instr.rol), (.ror, Instr.ror)] ∧
      (ShiftKind.ror, Instr.ror) ∈ [(ShiftKind.asl, Instr.asl), (.lsr, Instr.lsr), (.rol, Instr.rol), (.ror, Instr.ror)] :=
  ⟨List.mem_cons_self, by simp⟩

/-- ModifiesChangeOneByteOfMemory. -/
theorem witness_modifies :
    base.memoriesWf = true ∧ haltsOn (Instr.rra (.abs 0x7FFF)).opcode base.params = false ∧
      (Instr.rra (.abs 0x7FFF)).wellFormed = true ∧ storesByte (addressed (.abs 0x7FFF) base).addr = true ∧
      byteAt (addressed (.abs 0x7FFF) base).addr base = some 0x00 ∧ (∃ t, exec (.rra (.abs 0x7FFF)) base = .next t) ∧
      haltsOn (Instr.rra (.abs 0x8000)).opcode base.params = false ∧ (Instr.rra (.abs 0x8000)).wellFormed = true ∧
      storesByte (addressed (.abs 0x8000) base).addr = false ∧ base.cart.kind = .fixed ∧
      ∃ t, exec (.rra (.abs 0x8000)) base = .next t :=
  ⟨by decide, by decide, by decide, by decide, by decide +kernel, ⟨_, rfl⟩, by decide, by decide, by decide, by decide, ⟨_, rfl⟩⟩

/-- ConditionalBranches: BPL taken and not. -/
theorem witness_branches :
    ((0x10 : Byte), Instr.bpl, Flag.n, false) ∈ [((0x10 : Byte), Instr.bpl, Flag.n, false), (0x30, Instr.bmi, .n, true),
      (0x50, Instr.bvc, .v, false), (0x70, Instr.bvs, .v, true), (0x90, Instr.bcc, .c, false), (0xB0, Instr.bcs, .c, true),
      (0xD0, Instr.bne, .z, false), (0xF0, Instr.beq, .z, true)] ∧
      getFlag .n (0x24 : Byte) = false ∧ getFlag .n (0xA4 : Byte) ≠ false := ⟨List.mem_cons_self, by decide, by decide⟩

/-- JumpsAndTheIndirectPageWrap: a pointer at the end of a page, under the halt policy. -/
theorem witness_jumps :
    readAnswers 0x02FF { base with params := haltPolicy } = true ∧
      readAnswers (BitVec.ofNat 16 ((0x02FF : Word).toNat / 256 * 256 + ((0x02FF : Word).toNat + 1) % 256))
        { base with params := haltPolicy } = true := by decide

/-- PushedStateComesBack, StackWrapsWithinItsPage and PpuBusMirroring: a state in canonical form with a legal P. -/
theorem witness_canonical :
    { base with sp := 0x01 }.memoriesWf = true ∧ { base with sp := 0x01 }.statusWf = true ∧
      (List.replicate 257 (0x55 : Byte)).length = 257 := by decide +kernel

/-- FlagInstructionsWriteOneFlag: the first and the last of the list. -/
theorem witness_flags :
    ([((0x18 : Byte), Instr.clc, Flag.c, false), (0xB8, .clv, .v, false)].all fun p => decide (p ∈
    [((0x18 : Byte), Instr.clc, Flag.c, false), (0x38, .sec, .c, true), (0x58, .cli, .i, false),
      (0x78, .sei, .i, true), (0xD8, .cld, .d, false), (0xF8, .sed, .d, true), (0xB8, .clv, .v, false)])) = true := by decide +kernel

/-- UnofficialNopLaxAndSax and UnofficialReadModifyWrite, each form. -/
theorem witness_unofficial :
    nopImpliedOpcodes.contains 0x1A = true ∧ nopImmediateOpcodes.contains 0x80 = true ∧
      [(0x1A : Byte), 0x80, 0x1C, (Instr.lax (.absY 0x12FF)).opcode, (Instr.sax (.zpY 0x10)).opcode, (Instr.dcp (.zp 0)).opcode,
        (Instr.isb (.zp 0)).opcode, (Instr.slo (.zp 0)).opcode, (Instr.rla (.zp 0)).opcode, (Instr.sre (.zp 0)).opcode,
        (Instr.rra (.zp 0)).opcode].all (fun op => base.params.unofficialSet.contains op) = true ∧
      (Instr.nopUnofficial 0x1C (.mem (.absX 0x12FF))).wellFormed = true ∧ (Instr.lax (.absY 0x12FF)).wellFormed = true ∧
      (Instr.sax (.zpY 0x10)).wellFormed = true ∧ readAnswers (addressed (.absX 0x12FF) base).addr base = true ∧
      writeAnswers (addressed (.zpY 0x10) base).addr 0x00 base = true := by decide +kernel

/-- ReadsAndTheirSideEffects: each range at its ends, and an address with a byte. -/
theorem witness_reads :
    (0x1FFF : Word).toNat ≤ 0x1FFF ∧ 0x6000 ≤ (0x6000 : Word).toNat ∧ 0x2000 ≤ (0x2000 : Word).toNat ∧ (0x3FFF : Word).toNat ≤ 0x3FFF ∧
      (0x3FFC : Word).toNat % 8 = 4 ∧ (0x2000 : Word).toNat % 8 ≠ 2 ∧ byteAt 0xFFFF base = some 0x90 := by decide +kernel

/-- ReadsAndTheirSideEffects: a read that goes on and changes the PPU, and a read-class instruction that makes it. -/
theorem witness_reads_frame :
    (∃ v t, cpuRead 0x2007 base = .ok v t) ∧ ∃ t, exec (.lda (.mem (.abs 0x2007))) base = .next t :=
  ⟨⟨_, _, rfl⟩, ⟨_, rfl⟩⟩

/-- IllegalAccessIsRecorded: both policies, and the ends of the ranges. -/
theorem witness_illegal :
    base.params.busFaultPolicy = .recordAndContinue ∧ haltPolicy.busFaultPolicy = .halt ∧
      [(0x4000 : Word), 0x4015, 0x4017, 0x5FFF].all
        (fun a => decide (0x4000 ≤ a.toNat) && decide (a.toNat ≤ 0x5FFF) && a != 0x4016 && a != 0x4014) = true := by decide

/-- PpuBusMirroring: an address in every range, at the ends. -/
theorem witness_ppu_bus :
    [(0x0000, 0), (0x1FFF, 0), (0x2000, 1), (0x3EFF, 2), (0x3F00, 3), (0x3F10, 3), (0x3FFF, 3), (0x7000, 2)].all
      (fun (p : Nat × Nat) =>
        p.2 == if p.1 % 0x4000 ≤ 0x1FFF then 0 else if p.1 % 0x4000 < 0x3000 then 1 else if p.1 % 0x4000 ≤ 0x3EFF then 2 else 3) =
      true := by decide

/-- SerialPortSequence: from the reset value, at both ends of the four ranges of the fifth address. -/
theorem witness_serial :
    mapper1.kind = .shiftBanked ∧ mapper1.shift = 0b10000 ∧ (0x7F : Byte).getLsbD 7 = false ∧ (0x80 : Byte).getLsbD 7 = true ∧
      [(0x8000 : Word), 0x9FFF, 0xA000, 0xBFFF, 0xC000, 0xDFFF, 0xE000, 0xFFFF].all (fun a => decide (0x8000 ≤ a.toNat)) = true ∧
      { base with cart := mapper1 }.cart = mapper1 := by
  decide

/-- CartridgeBanks: both mappers, and the ends of the ranges. -/
theorem witness_banks :
    Cart.blank.kind = .fixed ∧ mapper1.kind = .shiftBanked ∧ 0x6000 ≤ (0x7FFF : Word).toNat ∧ (0x7FFF : Word).toNat ≤ 0x7FFF ∧
      0x8000 ≤ (0xBFFF : Word).toNat ∧ (0xBFFF : Word).toNat ≤ 0xBFFF ∧ 0xC000 ≤ (0xFFFF : Word).toNat := by decide

/-- PpuPortWrites and StatusAndDataPorts: every port, through the first and the last mirror, and both values of w. -/
theorem witness_ports :
    ((List.range 8).all fun p => decide ((BitVec.ofNat 16 (0x2000 + p)).toNat % 8 = p) &&
        decide ((BitVec.ofNat 16 (0x3FF8 + p)).toNat % 8 = p) && decide ((BitVec.ofNat 16 (0x3FF8 + p)).toNat ≤ 0x3FFF)) = true ∧
      base.ppu.w = false ∧ (withPpu (fun q => { q with w := true }) base).ppu.w = true ∧
      (0x3EFF : Word).toNat < 0x3F00 ∧ 0x3F00 ≤ (0x3F00 : Word).toNat := by decide +kernel

/-- OamDmaCopiesThePage: the first and last pages of each range, and both policies. -/
theorem witness_dma :
    base.memoriesWf = true ∧ (0x1F : Byte).toNat ≤ 0x1F ∧ 0x60 ≤ (0x60 : Byte).toNat ∧ 0x60 ≤ (0xFF : Byte).toNat ∧
      (0x3F : Byte).toNat ≤ 0x3F ∧ 0x40 ≤ (0x40 : Byte).toNat ∧ (0x5F : Byte).toNat ≤ 0x5F ∧
      base.params.busFaultPolicy = .recordAndContinue ∧ haltPolicy.busFaultPolicy = .halt := by decide

/-- FramesOf89342Ticks: the last position of a frame. -/
theorem witness_frames : (withPpu (fun q => { q with scanline := 261, cycle := 340 }) base).countersWf = true := by decide

/-- VblankAndNmi, ScrollUpdates, SpriteEvaluationAndOverflow and PixelComposition put their conditions on the position and the
mask alone; here is a state at every position they name, with rendering enabled. -/
theorem witness_positions :
    ([(241, 1), (261, 1), (0, 257), (261, 257), (261, 280), (261, 304), (239, 256), (0, 8), (0, 336), (0, 0), (239, 279), (239, 304),
        (0, 320), (0, 337), (0, 340), (240, 100), (260, 100), (240, 257), (260, 257), (239, 257), (261, 340)] : List (Nat × Nat)).all
      (fun p => let s := withPpu (fun q => { q with scanline := p.1, cycle := p.2, mask := 0x08 }) base
        s.memoriesWf && s.countersWf && (s.ppu.mask.getLsbD 3 || s.ppu.mask.getLsbD 4)) = true := by decide +kernel

/-- BackgroundFetches: a fetch cycle of each kind, one at which nothing is fetched, and a latch that holds two bits. -/
theorem witness_background :
    ([1, 3, 5, 7, 256, 321, 336].all fun c => (decide (1 ≤ c) && decide (c ≤ 256)) || (decide (321 ≤ c) && decide (c ≤ 336))) = true ∧
      ([0, 257, 320, 337].all fun c => !((decide (1 ≤ c) && decide (c ≤ 256)) || (decide (321 ≤ c) && decide (c ≤ 336)))) = true ∧
      base.latchWf = true := by decide

/-- SpriteRasterization: an 8×16 sprite, flipped both ways, whose pixel at 255 is inside the line. -/
theorem witness_rasterization :
    (let s := withPpu (fun q => { q with oam := [(1, 0x23), (2, 0xC1), (3, 0xF8)] })
        { base with cart := { Cart.blank with chr := [(0x1225, 0x80), (0x122D, 0x80)] } }
     Sparse.wf .transparent 256 s.ppu.spriteLine = true ∧ s.ppu.oam.read 1 = 0x23 ∧ s.ppu.oam.read 2 = 0xC1 ∧ s.ppu.oam.read 3 = 0xF8 ∧
        (3 : BitVec 2).toNat = 2 * bit ((ppuRead (0x1225 + 8) s).getLsbD 7) + bit ((ppuRead 0x1225 s).getLsbD 7) ∧
        Sparse.get .transparent (rasterize 0 10 16 [] s) 255 = .solid 1 3 true) := by decide +kernel

/-- PixelComposition: a sprite over an opaque background, with both layers shown at the left edge. -/
theorem witness_pixel :
    (let s := withPpu (fun q => { q with
        mask := 0x1E, scanline := 239, cycle := 1, tileData := 0x7777777700000000, spriteLine := [(0, .solid 2 1 true)] }) base
     s.memoriesWf = true ∧ s.ppu.scanline ≤ 239 ∧ 1 ≤ s.ppu.cycle ∧ s.ppu.cycle ≤ 256 ∧
        s.ppu.tileData.toNat / 2 ^ (32 + 4 * (7 - s.ppu.x.toNat)) % 16 = 7 ∧
        Sparse.get .transparent s.ppu.spriteLine (s.ppu.cycle - 1) = .solid 2 1 true) := by decide +kernel

/-- LoadGameBuildsTheConsole: a header alone, with banks, without PRG, without CHR. -/
theorem witness_load :
    (let image := fun (b4 b5 : Byte) => [0x4E, 0x45, 0x53, 0x1A, b4, b5, 0x10, 0x00] ++ List.replicate 8 0
     16 ≤ (image 1 1).length ∧ (image 1 1)[4]? = some 1 ∧ (image 1 1)[5]? = some 1 ∧ (image 1 1)[6]? = some 0x10 ∧
        (image 1 1)[7]? = some 0x00 ∧ (image 0 1)[4]? = some 0 ∧ (image 1 0)[5]? = some 0 ∧ ([] : List Byte).length < 16) := by
  decide

/-- The four invariants of every step: the state after reset meets their hypotheses and takes a step. -/
theorem witness_invariants :
    State.reset.memoriesWf = true ∧
      (State.reset.statusWf && State.reset.countersWf && State.reset.latchWf && State.reset.mapperWf && State.reset.haltWf &&
        State.reset.settled) = true ∧
      (∃ t, step State.reset = .next t) ∧ { State.reset with faults := [.halt 0x02] }.faults ≠ [] ∧
      (∃ t, { State.reset with host := [.reset], quit := true }.quit = true ∧
        step { State.reset with host := [.reset], quit := true } = .next t) ∧
      { State.reset with host := [.raiseIRQ] }.host = .raiseIRQ :: [] ∧ State.reset.host.head? ≠ some .raiseIRQ :=
  ⟨by decide, by decide, ⟨_, rfl⟩, by decide, ⟨_, rfl, rfl⟩, rfl, by decide⟩

/-- R422: a reset() after a quit, with the reset vector at END_PC, is no successful end; without the quit it is one. -/
theorem test_quit_is_no_success :
    (let s := { State.reset with params := { Params.reference with endPc := some 0x0000 } }
     (hostReset s).endedSuccessfully = true ∧ (hostReset { s with quit := true }).endedSuccessfully = false) := by decide +kernel

/-- OnlyTheHostRaisesIrq: a step that keeps a masked IRQ. -/
theorem witness_irq_stays :
    (match step { base with pending := some .irq } with
      | .next t => t.pending == some .irq
      | _ => false) = true := by decide +kernel

end Sys2Proof.Tests
end

-- ---- Proofs: What a step can do: the primitive changes of a step ----
section
/-! SUPPORT. The inversion of `step`: every step is a sequence of primitive changes (`step_changes`). An invariant of every step
is then one lemma about the primitive changes. -/

namespace Sys2Proof.Machine

/-! ### The primitive changes -/

/-- The fields of the PPU that an invariant speaks of; `Change.ports` leaves them alone. -/
def Ppu.stores (q : Ppu) :
    Memory × Sparse SpritePixel × Sparse (BitVec 6) × Sparse (BitVec 6) × Nat × Nat × Byte :=
  (q.oam, q.spriteLine, q.frame0, q.frame1, q.cycle, q.scanline, q.atBits)

/-- One primitive change that a step can make, with the condition under which it is made. -/
inductive Change : State → State → Prop
  /-- The registers without a constraint. -/
  | registers (s : State) (a x y sp : Byte) (pc : Word) : Change s { s with a := a, x := x, y := y, sp := sp, pc := pc }
  /-- P: bits 4 and 5 are as before, or as R23 gives them. -/
  | status (s : State) (p : Byte) (h : p &&& 0x30 = s.p &&& 0x30 ∨ p &&& 0x30 = 0x20) : Change s { s with p := p }
  /-- A halt (R401). -/
  | halt (s : State) (op : Byte) : Change s (haltOn op s)
  /-- The end of a halt, by `reset()` (R441). -/
  | resume (s : State) : Change s { s with running := true, haltCause := none }
  /-- The pending cell. -/
  | pending (s : State) (k : Option Interrupt) : Change s { s with pending := k }
  /-- The controller port. -/
  | controller (s : State) (strobe : BitVec 1) (index : BitVec 3) : Change s { s with strobe := strobe, index := index }
  /-- A draw. -/
  | draw (s : State) : Change s s.nextDraw
  /-- The cycle count. -/
  | cycles (s : State) (n : Nat) : Change s (s.setCycles n)
  /-- A record in the fault log. -/
  | fault (s : State) (f : FaultRecord) : Change s (s.record f)
  /-- A byte of internal RAM (R27). -/
  | ram (s : State) (k : Nat) (v : Byte) (hk : k < 0x800) : Change s { s with ram := s.ram.write k v }
  /-- A byte of nametable RAM (R42). -/
  | ntRam (s : State) (k : Nat) (v : Byte) (hk : k < 0x800) : Change s { s with ntRam := s.ntRam.write k v }
  /-- A byte of palette RAM (R42). -/
  | palRam (s : State) (k : Nat) (v : Byte) (hk : k < 32) : Change s { s with palRam := s.palRam.write k v }
  /-- A byte of save RAM (R43). -/
  | saveRam (s : State) (k : Nat) (v : Byte) (hk : k < 0x2000) :
      Change s { s with cart := { s.cart with prgRam := s.cart.prgRam.write k v } }
  /-- A write to mapper 1's serial port (R91). -/
  | serial (s : State) (a : Word) (d : Byte) (hk : s.cart.kind = .shiftBanked) :
      Change s { s with cart := s.cart.serialWrite a d }
  /-- A byte of OAM (R34). -/
  | oam (s : State) (k v : Byte) : Change s (s.setPpu { s.ppu with oam := s.ppu.oam.write k.toNat v })
  /-- The registers of the PPU without a constraint. -/
  | ports (s : State) (q : Ppu) (h : q.stores = s.ppu.stores) : Change s (s.setPpu q)
  /-- The latch of the fetched palette bits (R39). -/
  | latch (s : State) (b : Byte) (h : b &&& 0xF3 = 0) : Change s (s.setPpu { s.ppu with atBits := b })
  /-- The sprite line (R40). -/
  | spriteLine (s : State) (l : Sparse SpritePixel) (h : Sparse.wf .transparent 256 l = true) :
      Change s (s.setPpu { s.ppu with spriteLine := l })
  /-- A pixel of the frame under construction (R41). -/
  | pixel (s : State) (x y : Nat) (c : BitVec 6) (hx : x ≤ 255) (hy : y ≤ 239) : Change s (s.setPpu (s.ppu.putPixel x y c))
  /-- The frame counters (R38). -/
  | position (s : State) (cycle line : Nat) (hc : cycle ≤ 340) (hl : line ≤ 261 ∨ line = s.ppu.scanline) :
      Change s (s.setPpu { s.ppu with cycle := cycle, scanline := line })
  /-- The host list. -/
  | host (s : State) (l : List HostMove) : Change s { s with host := l }
  /-- The host quits (R423). -/
  | quit (s : State) : Change s { s with quit := true }

/-- A sequence of primitive changes. -/
abbrev Changes : State → State → Prop := Relation.ReflTransGen Change

theorem Change.one {s t : State} (h : Change s t) : Changes s t := .single h

/-- What every primitive change keeps, every sequence of them keeps. -/
theorem Changes.invariant {P : State → Prop} (hP : ∀ s t, Change s t → P s → P t) {s t : State} (h : Changes s t)
    (hs : P s) : P t := by
  induction h with
  | refl => exact hs
  | tail _ h ih => exact hP _ _ h ih

/-- The answer is a next state, which primitive changes lead to. -/
def Answers (s : State) (r : Result) : Prop := ∃ t, r = .next t ∧ Changes s t

/-! ### Results of the bus -/

theorem changes_bind {α β : Type} {s : State} {r : Bus α} {k : α → State → Bus β} (hr : Changes s r.state)
    (hk : ∀ v u, Changes u (k v u).state) : Changes s (r.bind k).state := by
  cases r with
  | ok v u => exact hr.trans (hk v u)
  | stop u => exact hr

theorem answers_complete {s : State} {i : Instr} {r : Bus Nat} (hr : Changes s r.state) : Answers s (complete i r) := by
  cases r with
  | ok n u => exact ⟨_, rfl, hr.tail (.cycles u _)⟩
  | stop u => exact ⟨_, rfl, hr.tail (.cycles u _)⟩

/-! ### The registers and the status register -/

theorem changes_setPc (w : Word) (s : State) : Changes s { s with pc := w } :=
  (Change.registers s s.a s.x s.y s.sp w).one

theorem changes_setSp (b : Byte) (s : State) : Changes s { s with sp := b } :=
  (Change.registers s s.a s.x s.y b s.pc).one

theorem changes_start (i : Instr) (s : State) : Changes s (s.start i) := changes_setPc _ s

theorem changes_setFlag (f : Flag) (b : Bool) (s : State) : Changes s (s.setFlag f b) :=
  (Change.status s _ (.inl (putFlag_keeps_b f b s.p))).one

theorem changes_setZN (r : Byte) (s : State) : Changes s (s.setZN r) :=
  (Change.status s _ (.inl (setZN_keeps_b r s.p))).one

theorem changes_statusFromByte (b : Byte) (s : State) : Changes s { s with p := statusFromByte b } :=
  (Change.status s _ (.inr (statusFromByte_b b))).one

theorem changes_loadA (r : Byte) (s : State) : Changes s (s.loadA r) :=
  (Change.registers s r s.x s.y s.sp s.pc).one.trans (changes_setZN r _)

theorem changes_loadX (r : Byte) (s : State) : Changes s (s.loadX r) :=
  (Change.registers s s.a r s.y s.sp s.pc).one.trans (changes_setZN r _)

theorem changes_loadY (r : Byte) (s : State) : Changes s (s.loadY r) :=
  (Change.registers s s.a s.x r s.sp s.pc).one.trans (changes_setZN r _)

/-- LAX's effect (R282). -/
theorem changes_loadAX (r : Byte) (s : State) : Changes s ({ s with x := r }.loadA r) :=
  (Change.registers s s.a r s.y s.sp s.pc).one.trans (changes_loadA r _)

theorem changes_addCore (m : Byte) (s : State) : Changes s (s.addCore m) :=
  (Change.registers s _ s.x s.y s.sp s.pc).one.trans
    (((changes_setFlag .c _ _).trans (changes_setFlag .v _ _)).trans (changes_setZN _ _))

theorem changes_subCore (m : Byte) (s : State) : Changes s (s.subCore m) := changes_addCore _ s

theorem changes_compareCore (src m : Byte) (s : State) : Changes s (s.compareCore src m) :=
  (changes_setFlag .c _ s).trans (changes_setZN _ _)

theorem changes_shiftCore (k : ShiftKind) (m : Byte) (s : State) : Changes s (s.shiftCore k m).2 := changes_setFlag .c _ s

theorem changes_bitTest (m : Byte) (s : State) : Changes s (s.bitTest m) :=
  ((changes_setFlag .z _ s).trans (changes_setFlag .n _ _)).trans (changes_setFlag .v _ _)

/-! ### The PPU bus and the ports -/

/-- A change of the PPU's registers. -/
theorem changes_setPpu {s : State} {q : Ppu} (h : q.stores = s.ppu.stores) : Changes s (s.setPpu q) := (Change.ports s q h).one

/-- Both physical nametables lie in nametable RAM (R42, R81). -/
theorem ntIndex_lt (c : Cart) (a : Nat) : c.ntIndex a < 0x800 := by
  have ht : c.mirroringTable a ≤ 1 := by
    unfold Cart.mirroringTable Mirror.table
    cases c.mirror <;> dsimp only <;> omega
  unfold Cart.ntIndex
  omega

theorem palIndex_lt (a : Nat) : palIndex a < 32 := by
  unfold palIndex
  dsimp only
  split <;> omega

theorem changes_ppuWrite (a : Word) (d : Byte) (s : State) : Changes s (ppuWrite a d s) := by
  unfold ppuWrite
  dsimp only
  split
  · exact .refl
  split
  · exact (Change.ntRam s _ d (ntIndex_lt s.cart _)).one
  · exact (Change.palRam s _ d (palIndex_lt _)).one

theorem changes_dataWrite (d : Byte) (s : State) : Changes s (dataWrite d s) :=
  (changes_ppuWrite s.ppu.busAddr d s).trans (changes_setPpu rfl)

theorem stores_scrollWrite (d : Byte) (q : Ppu) : (q.scrollWrite d).stores = q.stores := by
  unfold Ppu.scrollWrite
  split <;> rfl

theorem stores_addressWrite (d : Byte) (q : Ppu) : (q.addressWrite d).stores = q.stores := by
  unfold Ppu.addressWrite
  split <;> rfl

theorem changes_oamDataWrite (d : Byte) (s : State) : Changes s (s.setPpu (s.ppu.oamDataWrite d)) :=
  (Change.oam s s.ppu.oamAddr d).one.trans (changes_setPpu (q := s.ppu.oamDataWrite d) rfl)

theorem changes_ppuPortWrite (p : Nat) (d : Byte) (s : State) : Changes s (ppuPortWrite p d s) := by
  unfold ppuPortWrite
  split
  · exact changes_setPpu rfl
  · exact changes_setPpu rfl
  · exact .refl
  · exact changes_setPpu rfl
  · exact changes_oamDataWrite d s
  · exact changes_setPpu (stores_scrollWrite d s.ppu)
  · exact changes_setPpu (stores_addressWrite d s.ppu)
  · exact changes_dataWrite d s

theorem changes_dataRead (s : State) : Changes s (dataRead s).2 := by
  unfold dataRead
  dsimp only
  split <;> exact changes_setPpu rfl

theorem changes_ppuPortRead (p : Nat) (s : State) : Changes s (ppuPortRead p s).2 := by
  unfold ppuPortRead
  split
  · exact (changes_setPpu (s := s) (q := { s.ppu with vblank := false, w := false }) rfl).tail (.draw _)
  · exact .refl
  · exact changes_dataRead s
  · exact (Change.draw s).one

theorem changes_controllerRead (s : State) : Changes s (controllerRead s).2 :=
  (Change.controller s s.strobe _).one.tail (.draw _)

theorem changes_controllerWrite (d : Byte) (s : State) : Changes s (controllerWrite d s) := (Change.controller s _ _).one

/-! ### The bus router -/

theorem changes_illegalRead (a : Word) (s : State) : Changes s (illegalRead a s).state := by
  unfold illegalRead
  split
  · exact (Change.fault s _).one.tail (.draw _)
  · exact (Change.fault s _).one

theorem changes_illegalWrite (a : Word) (s : State) : Changes s (illegalWrite a s).state := by
  unfold illegalWrite
  split <;> exact (Change.fault s _).one

theorem changes_cpuRead (a : Word) (s : State) : Changes s (cpuRead a s).state := by
  unfold cpuRead
  split
  · exact .refl
  split
  · exact changes_ppuPortRead _ s
  split
  · exact changes_controllerRead s
  split
  · exact .refl
  · exact changes_illegalRead a s

theorem changes_oamPut (i : Nat) (b : Byte) (s : State) : Changes s (s.oamPut i b) := (Change.oam s _ b).one

theorem changes_oamDmaFrom (d : Byte) (n i : Nat) (s : State) : Changes s (oamDmaFrom d n i s).state := by
  induction n generalizing i s with
  | zero => exact .refl
  | succ n ih => exact changes_bind (changes_cpuRead _ s) fun b u => (changes_oamPut i b u).trans (ih (i + 1) _)

/-- A write to cartridge space: save RAM, nothing, or mapper 1's serial port (R87, R90, R91). -/
theorem changes_cartWrite {a : Word} (h : 0x6000 ≤ a.toNat) (d : Byte) (s : State) :
    Changes s { s with cart := s.cart.cpuWrite a d } := by
  unfold Cart.cpuWrite
  split
  · exact (Change.saveRam s _ d (by omega)).one
  split
  · exact .refl
  · exact (Change.serial s a d ‹_›).one

theorem changes_cpuWrite (a : Word) (d : Byte) (s : State) : Changes s (cpuWrite a d s).state := by
  unfold cpuWrite
  split
  · exact (Change.ram s _ d (by omega)).one
  split
  · exact changes_ppuPortWrite _ d s
  split
  · exact changes_oamDmaFrom d 256 0 s
  split
  · exact changes_controllerWrite d s
  split
  · exact changes_cartWrite ‹_› d s
  · exact changes_illegalWrite a s

theorem changes_readWord (a : Word) (s : State) : Changes s (readWord a s).state :=
  changes_bind (changes_cpuRead a s) fun _ u => changes_bind (changes_cpuRead (a + 1) u) fun _ _ => .refl

theorem changes_readWordBug (a : Word) (s : State) : Changes s (readWordBug a s).state :=
  changes_bind (changes_cpuRead a s) fun _ u => changes_bind (changes_cpuRead _ u) fun _ _ => .refl

/-! ### The stack and interrupts -/

theorem changes_push (v : Byte) (s : State) : Changes s (push v s).state :=
  changes_bind (changes_cpuWrite _ v s) fun _ u => changes_setSp _ u

theorem changes_push16 (v : Word) (s : State) : Changes s (push16 v s).state :=
  changes_bind (changes_push _ s) fun _ u => changes_push _ u

theorem changes_pop (s : State) : Changes s (pop s).state := (changes_setSp _ s).trans (changes_cpuRead _ _)

theorem changes_pop16 (s : State) : Changes s (pop16 s).state :=
  changes_bind (changes_pop s) fun _ u => changes_bind (changes_pop u) fun _ _ => .refl

theorem changes_enterHandler (returnTo : Word) (status : Byte) (vector : Word) (s : State) :
    Changes s (enterHandler returnTo status vector s).state :=
  changes_bind (changes_push16 returnTo s) fun _ u => changes_bind (changes_push status u) fun _ u =>
    changes_bind ((changes_setFlag .i true u).trans (changes_readWord vector _)) fun _ u => changes_setPc _ u

theorem changes_serviceInterrupt (k : Interrupt) (s : State) : Changes s (serviceInterrupt k s).state :=
  changes_bind (changes_enterHandler _ _ _ s) fun _ u => (Change.pending u none).one

theorem changes_returnFromInterrupt (s : State) : Changes s (returnFromInterrupt s).state :=
  changes_bind (changes_pop s) fun b u =>
    changes_bind ((changes_statusFromByte b u).trans (changes_pop16 _)) fun _ u => changes_setPc _ u

/-! ### The shapes of the instructions -/

theorem answers_register {i : Instr} {f : State → State} {s : State} (hf : ∀ u, Changes u (f u)) :
    Answers s (register i f s) :=
  answers_complete ((changes_start i s).trans (hf _))

theorem answers_stacked {i : Instr} {f : State → Bus Unit} {s : State} (hf : ∀ u, Changes u (f u).state) :
    Answers s (stacked i f s) :=
  answers_complete (changes_bind ((changes_start i s).trans (hf _)) fun _ _ => .refl)

theorem answers_haltTick {op : Byte} {s : State} : Answers s (haltTick op s) :=
  ⟨_, rfl, (Change.halt s op).one.tail (.cycles _ 0)⟩

theorem answers_gated {i : Instr} {k : State → Result} {s : State} (hk : Answers s (k s)) :
    Answers s (gated i k s) := by
  unfold gated
  split
  · exact hk
  · exact answers_haltTick

theorem changes_loadMem (m : AddrMode) (s : State) : Changes s (loadMem m s).state := by
  unfold loadMem
  rw [effAddr_eq, Bus.bind_ok]
  exact changes_bind (changes_cpuRead _ s) fun _ _ => .refl

theorem changes_load (m : ReadOperand) (s : State) : Changes s (load m s).state := by
  cases m with
  | imm b => exact .refl
  | mem m => exact changes_loadMem m s

theorem answers_readOp {i : Instr} {m : ReadOperand} {f : Byte → State → State} {s : State}
    (hf : ∀ v u, Changes u (f v u)) : Answers s (readOp i m f s) :=
  answers_complete (changes_bind ((changes_start i s).trans (changes_load m _)) fun r u => hf r.value u)

theorem answers_writeOp {i : Instr} {m : AddrMode} {f : State → Byte} {s : State} : Answers s (writeOp i m f s) := by
  unfold writeOp
  rw [effAddr_eq, Bus.bind_ok]
  exact answers_complete (changes_bind ((changes_start i s).trans (changes_cpuWrite _ _ _)) fun _ _ => .refl)

theorem answers_modifyOp {i : Instr} {m : AddrMode} {f : Byte → State → Byte × State} {g : Byte → State → State} {s : State}
    (hf : ∀ v u, Changes u (f v u).2) (hg : ∀ r u, Changes u (g r u)) : Answers s (modifyOp i m f g s) := by
  unfold modifyOp
  rw [effAddr_eq, Bus.bind_ok]
  exact answers_complete (changes_bind ((changes_start i s).trans (changes_cpuRead _ _)) fun v u =>
    changes_bind ((hf v u).trans (changes_cpuWrite _ _ _)) fun _ u => hg _ u)

theorem answers_shiftOp {i : Instr} {k : ShiftKind} {m : ShiftOperand} {s : State} : Answers s (shiftOp i k m s) := by
  cases m with
  | acc => exact answers_register fun u => (changes_shiftCore k u.a u).trans (changes_loadA _ _)
  | mem m => exact answers_modifyOp (changes_shiftCore k) changes_setZN

theorem answers_branchOp {i : Instr} {d : Byte} {cond : Bool} {s : State} : Answers s (branchOp i d cond s) := by
  unfold branchOp
  dsimp only
  split <;> exact answers_complete (changes_setPc _ s)

theorem changes_jumpTarget (t : JumpOperand) (s : State) : Changes s (jumpTarget t s).state := by
  cases t with
  | abs w => exact .refl
  | ind w => exact changes_readWordBug w s

theorem answers_nopEffect {i : Instr} {m : NopOperand} {s : State} : Answers s (nopEffect i m s) := by
  cases m with
  | implied => exact answers_register fun _ => .refl
  | imm b => exact answers_readOp fun _ _ => .refl
  | mem m => exact answers_readOp fun _ _ => .refl

/-! ### Every instruction -/

/-- Every instruction answers a next state that primitive changes lead to. -/
theorem answers_exec (i : Instr) (s : State) : Answers s (exec i s) := by
  unfold exec
  cases i with
  | lda m => exact answers_readOp fun v u => changes_loadA v u
  | ldx m => exact answers_readOp fun v u => changes_loadX v u
  | ldy m => exact answers_readOp fun v u => changes_loadY v u
  | sta m => exact answers_writeOp
  | stx m => exact answers_writeOp
  | sty m => exact answers_writeOp
  | tax => exact answers_register fun u => changes_loadX u.a u
  | tay => exact answers_register fun u => changes_loadY u.a u
  | txa => exact answers_register fun u => changes_loadA u.x u
  | tya => exact answers_register fun u => changes_loadA u.y u
  | tsx => exact answers_register fun u => changes_loadX u.sp u
  | txs => exact answers_register fun u => changes_setSp u.x u
  | adc m => exact answers_readOp changes_addCore
  | sbc m => exact answers_readOp changes_subCore
  | and m => exact answers_readOp fun v u => changes_loadA (u.a &&& v) u
  | ora m => exact answers_readOp fun v u => changes_loadA (u.a ||| v) u
  | eor m => exact answers_readOp fun v u => changes_loadA (u.a ^^^ v) u
  | cmp m => exact answers_readOp fun v u => changes_compareCore u.a v u
  | cpx m => exact answers_readOp fun v u => changes_compareCore u.x v u
  | cpy m => exact answers_readOp fun v u => changes_compareCore u.y v u
  | bit m => exact answers_readOp changes_bitTest
  | inc m => exact answers_modifyOp (fun _ _ => .refl) changes_setZN
  | dec m => exact answers_modifyOp (fun _ _ => .refl) changes_setZN
  | inx => exact answers_register fun u => changes_loadX (u.x + 1) u
  | iny => exact answers_register fun u => changes_loadY (u.y + 1) u
  | dex => exact answers_register fun u => changes_loadX (u.x - 1) u
  | dey => exact answers_register fun u => changes_loadY (u.y - 1) u
  | asl m => exact answers_shiftOp
  | lsr m => exact answers_shiftOp
  | rol m => exact answers_shiftOp
  | ror m => exact answers_shiftOp
  | bpl d => exact answers_branchOp
  | bmi d => exact answers_branchOp
  | bvc d => exact answers_branchOp
  | bvs d => exact answers_branchOp
  | bcc d => exact answers_branchOp
  | bcs d => exact answers_branchOp
  | bne d => exact answers_branchOp
  | beq d => exact answers_branchOp
  | jmp t => exact answers_stacked fun u => changes_bind (changes_jumpTarget t u) fun _ u => changes_setPc _ u
  | jsr w => exact answers_stacked fun u => changes_bind (changes_push16 _ u) fun _ u => changes_setPc w u
  | rts => exact answers_stacked fun u => changes_bind (changes_pop16 u) fun _ u => changes_setPc _ u
  | rti => exact answers_stacked changes_returnFromInterrupt
  | brk => exact answers_stacked fun u => changes_enterHandler _ _ _ u
  | pha => exact answers_stacked fun u => changes_push u.a u
  | php => exact answers_stacked fun u => changes_push _ u
  | pla => exact answers_stacked fun u => changes_bind (changes_pop u) fun v u => changes_loadA v u
  | plp => exact answers_stacked fun u => changes_bind (changes_pop u) fun v u => changes_statusFromByte v u
  | clc => exact answers_register (changes_setFlag .c false)
  | sec => exact answers_register (changes_setFlag .c true)
  | cli => exact answers_register (changes_setFlag .i false)
  | sei => exact answers_register (changes_setFlag .i true)
  | cld => exact answers_register (changes_setFlag .d false)
  | sed => exact answers_register (changes_setFlag .d true)
  | clv => exact answers_register (changes_setFlag .v false)
  | nop => exact answers_register fun _ => .refl
  | nopUnofficial op m => exact answers_gated answers_nopEffect
  | lax m => exact answers_gated (answers_readOp changes_loadAX)
  | sax m => exact answers_gated answers_writeOp
  | sbcEB b => exact answers_gated (answers_readOp changes_subCore)
  | dcp m => exact answers_gated (answers_modifyOp (fun _ _ => .refl) fun r u => changes_compareCore u.a r u)
  | isb m => exact answers_gated (answers_modifyOp (fun _ _ => .refl) changes_subCore)
  | slo m => exact answers_gated (answers_modifyOp (changes_shiftCore .asl) fun r u => changes_loadA (u.a ||| r) u)
  | rla m => exact answers_gated (answers_modifyOp (changes_shiftCore .rol) fun r u => changes_loadA (u.a &&& r) u)
  | sre m => exact answers_gated (answers_modifyOp (changes_shiftCore .lsr) fun r u => changes_loadA (u.a ^^^ r) u)
  | rra m => exact answers_gated (answers_modifyOp (changes_shiftCore .ror) changes_addCore)
  | kil op => exact answers_haltTick
  | anc op => exact answers_haltTick
  | alr => exact answers_haltTick
  | arr => exact answers_haltTick
  | xaa => exact answers_haltTick
  | ahx op => exact answers_haltTick
  | tas => exact answers_haltTick
  | shy => exact answers_haltTick
  | shx => exact answers_haltTick
  | lxa => exact answers_haltTick
  | las => exact answers_haltTick
  | axs => exact answers_haltTick

/-! ### The CPU tick -/

theorem changes_fetchOperands (op : Byte) (s : State) : Changes s (fetchOperands op s).state := by
  unfold fetchOperands
  split
  · exact .refl
  · exact changes_bind (changes_cpuRead _ s) fun _ _ => .refl
  · exact changes_bind (changes_cpuRead _ s) fun _ u => changes_bind (changes_cpuRead _ u) fun _ _ => .refl

theorem changes_stopAtNext (op : Byte) (pc : Word) {s : State} {r : Bus Instr} (hr : Changes s r.state) :
    Changes s (stopAtNext op pc r).state := by
  cases r with
  | ok i u => exact hr
  | stop u => exact hr.trans (changes_setPc _ u)

theorem changes_fetch (s : State) : Changes s (fetch s).state :=
  changes_bind (changes_cpuRead _ s) fun op u => changes_stopAtNext op s.pc (changes_fetchOperands op u)

/-- A CPU tick answers a next state that primitive changes lead to. -/
theorem answers_cpuTick (s : State) : Answers s (cpuTick s) := by
  unfold cpuTick
  split
  · exact ⟨_, rfl, (changes_serviceInterrupt _ s).tail (.cycles _ 0)⟩
  have hf := changes_fetch s
  split
  · rename_i i u h
    rw [h] at hf
    obtain ⟨t, ht, hc⟩ := answers_exec i u
    exact ⟨t, ht, hf.trans hc⟩
  · rename_i u h
    rw [h] at hf
    exact ⟨_, rfl, hf.tail (.cycles u 0)⟩

/-! ### The PPU tick -/

theorem changes_when {b : Bool} {f : State → State} {s : State} (hf : b = true → Changes s (f s)) :
    Changes s (when b f s) := by
  unfold when
  split
  · exact hf ‹_›
  · exact .refl

theorem changes_renderPixel {x y : Nat} (hx : x ≤ 255) (hy : y ≤ 239) (s : State) : Changes s (renderPixel x y s) :=
  (Change.pixel s x y _ hx hy).one.trans (changes_setPpu rfl)

theorem changes_backdrop {x y : Nat} (hx : x ≤ 255) (hy : y ≤ 239) (s : State) : Changes s (backdrop x y s) :=
  (Change.pixel s x y _ hx hy).one

/-- Two bits shifted left by 2 are a legal value of the latch (R39). -/
theorem latched_bits_legal (b : Byte) : ((b &&& 0x03) <<< 2) &&& 0xF3 = 0 := by
  revert b; decide +kernel

theorem changes_fetchAt (s : State) : Changes s (fetchAt s) := (Change.latch s _ (latched_bits_legal _)).one

theorem changes_fetchStep (c : Nat) (s : State) : Changes s (fetchStep c s) := by
  have h1 : Changes s (s.setPpu s.ppu.shiftTile) := changes_setPpu rfl
  unfold fetchStep
  dsimp only
  split
  · exact h1.trans (changes_setPpu rfl)
  · exact h1.trans (changes_fetchAt _)
  · exact h1.trans (changes_setPpu rfl)
  · exact h1.trans (changes_setPpu rfl)
  · exact h1.trans (changes_setPpu rfl)
  · exact h1

theorem changes_scrollStep (line c : Nat) (s : State) : Changes s (scrollStep line c s) := by
  refine (((changes_when fun _ => ?_).trans (changes_when fun _ => ?_)).trans (changes_when fun _ => ?_)).trans
    (changes_when fun _ => ?_) <;> exact changes_setPpu rfl

theorem putSpritePixel_wf {line : Sparse SpritePixel} (h : Sparse.wf .transparent 256 line = true) (attr : Byte) (left : Nat)
    (zero : Bool) (lo hi : Byte) (i : Nat) :
    Sparse.wf .transparent 256 (putSpritePixel attr left zero lo hi line i) = true := by
  unfold putSpritePixel
  dsimp only
  split
  · exact Sparse.set_wf h (by omega)
  · exact h

theorem rasterize_wf {line : Sparse SpritePixel} (h : Sparse.wf .transparent 256 line = true) (n row height : Nat) (s : State) :
    Sparse.wf .transparent 256 (rasterize n row height line s) = true := by
  unfold rasterize
  exact List.foldlRecOn (motive := fun l : Sparse SpritePixel => Sparse.wf .transparent 256 l = true) _ _ h
    fun _ hl i _ => putSpritePixel_wf hl _ _ _ _ _ i

/-- The line buffer of a sprite evaluation is in canonical form (R40, R360). -/
theorem scanSprites_wf {line : Sparse SpritePixel} (h : Sparse.wf .transparent 256 line = true) (s : State)
    (scanline height left n count : Nat) :
    Sparse.wf .transparent 256 (scanSprites s scanline height left n count line).1 = true := by
  induction left generalizing n count line with
  | zero => exact h
  | succ left ih =>
    unfold scanSprites
    dsimp only
    split
    · split
      · exact h
      · exact ih (rasterize_wf h _ _ _ s) _ _
    · exact ih h _ _

theorem changes_evaluateSprites (scanline : Nat) (s : State) : Changes s (evaluateSprites scanline s) :=
  (Change.spriteLine s _ (scanSprites_wf rfl s _ _ _ _ _)).one.trans (changes_setPpu rfl)

theorem changes_spriteStep (line c : Nat) (s : State) : Changes s (spriteStep line c s) := by
  unfold spriteStep
  split
  · split
    · exact changes_evaluateSprites line s
    split
    · exact (Change.spriteLine s [] rfl).one
    · exact .refl
  · exact .refl

/-- A visible position is a pixel of the frame (R350). -/
theorem visible_position {line c : Nat} (h : (decide (line ≤ 239) && visibleCycle c) = true) : c - 1 ≤ 255 ∧ line ≤ 239 := by
  simp only [visibleCycle, Bool.and_eq_true, decide_eq_true_eq] at h
  omega

theorem changes_ppuActions (line c : Nat) (s : State) : Changes s (ppuActions line c s) := by
  unfold ppuActions
  dsimp only
  split
  · exact (((changes_when fun h => changes_renderPixel (visible_position h).1 (visible_position h).2 _).trans
      (changes_when fun _ => changes_fetchStep c _)).trans (changes_when fun _ => changes_scrollStep line c _)).trans
      (changes_spriteStep line c _)
  · exact changes_when fun h => changes_backdrop (visible_position h).1 (visible_position h).2 _

theorem changes_vblankStart (s : State) : Changes s (vblankStart s) :=
  (changes_setPpu (q := { s.ppu with vblank := true }) rfl).trans (changes_when fun _ => (Change.pending _ (some .nmi)).one)

theorem changes_preRenderClear (s : State) : Changes s (preRenderClear s) := changes_setPpu rfl

theorem changes_advance (s : State) : Changes s (s.setPpu s.ppu.advance) := by
  unfold Ppu.advance
  split
  · exact (Change.position s _ s.ppu.scanline ‹_› (.inr rfl)).one
  split
  · exact (Change.position s 0 _ (Nat.zero_le _) (.inl ‹_›)).one
  · exact (Change.position s 0 0 (Nat.zero_le _) (.inl (Nat.zero_le _))).one.trans (changes_setPpu rfl)

theorem changes_ppuTick (s : State) : Changes s (ppuTick s) :=
  (((changes_ppuActions _ _ s).trans (changes_when fun _ => changes_vblankStart _)).trans
    (changes_when fun _ => changes_preRenderClear _)).trans (changes_advance _)

theorem changes_ppuTicks (n : Nat) (s : State) : Changes s (ppuTicks n s) := by
  induction n generalizing s with
  | zero => exact .refl
  | succ n ih => exact (changes_ppuTick s).trans (ih _)

theorem changes_catchUp (s : State) : Changes s (catchUp s) := (changes_ppuTicks _ s).tail (.cycles _ 0)

/-! ### The host's moves -/

/-- `reset()` of the CPU reads its vector from the cartridge, so it always goes on (R441). -/
theorem cpuReset_eq (s : State) : cpuReset s = { s with
    pc := mkWord (s.cart.cpuRead resetVector) (s.cart.cpuRead (resetVector + 1))
    sp := 0xFD, p := 0x24, a := 0, x := 0, y := 0, pending := none, running := true, haltCause := none } := by
  rw [cpuReset, readWord_cart (by decide) (by decide)]
  rfl

theorem changes_cpuReset (s : State) : Changes s (cpuReset s) := by
  rw [cpuReset_eq]
  exact ((((Change.registers s 0 0 0 0xFD _).one.tail (.status _ 0x24 (.inr (by decide)))).tail (.pending _ none)).tail
    (.resume _))

theorem changes_ppuReset (s : State) : Changes s (s.setPpu s.ppu.afterReset) := by
  have hstores : Changes s (s.setPpu { s.ppu with cycle := 0, scanline := 0, atBits := 0, spriteLine := [] }) :=
    ((Change.position s 0 0 (Nat.zero_le _) (.inl (Nat.zero_le _))).one.tail (.latch _ 0 rfl)).tail (.spriteLine _ [] rfl)
  exact hstores.tail (.ports _ _ rfl)

theorem changes_raiseIrq (s : State) : Changes s s.raiseIrq := by
  unfold State.raiseIrq
  split
  · exact (Change.pending s _).one
  · exact .refl

theorem changes_hostMove (m : HostMove) (s : State) : Changes s (hostMove m s) := by
  cases m with
  | run => exact .refl
  | raiseIRQ => exact changes_raiseIrq s
  | reset => exact (changes_cpuReset s).trans (changes_ppuReset _)
  | quit => exact (Change.quit s).one

/-! ### The step -/

/-- An iteration that goes on is a CPU tick and the PPU ticks it owes (R420). -/
theorem iterate_next {s t : State} (h : iterate s = .next t) : ∃ u, Changes s u ∧ t = catchUp u := by
  unfold iterate at h
  split at h
  · cases h
  obtain ⟨u, hu, hc⟩ := answers_cpuTick s
  rw [hu] at h
  cases h
  exact ⟨u, hc, rfl⟩

/-- A step is an iteration of the driver loop or a host move (R420, R423). -/
theorem step_next {s t : State} (h : step s = .next t) :
    (∃ rest u, Changes { s with host := rest } u ∧ t = catchUp u) ∨ ∃ rest m, t = hostMove m { s with host := rest } := by
  unfold step at h
  split at h
  · obtain ⟨u, hu, ht⟩ := iterate_next h
    exact .inl ⟨s.host, u, hu, ht⟩
  · exact .inl ⟨_, iterate_next h⟩
  · cases h
    exact .inr ⟨_, _, rfl⟩

/-- Every step is a sequence of primitive changes. -/
theorem step_changes {s t : State} (h : step s = .next t) : Changes s t := by
  rcases step_next h with ⟨rest, u, hu, rfl⟩ | ⟨rest, m, rfl⟩
  · exact ((Change.host s rest).one.trans hu).trans (changes_catchUp u)
  · exact (Change.host s rest).one.trans (changes_hostMove m _)

end Sys2Proof.Machine
end

-- ---- Proofs: What the primitive changes keep, and the invariants of every step ----
section
/-! SUPPORT. Each invariant of every step is kept by every primitive change, and so by every step (`step_changes`). -/

namespace Sys2Proof.Machine

/-! ### The serial port -/

/-- A dispatch writes mapper 1's registers alone (R92). -/
theorem dispatch_eq (c : Cart) (a : Word) (v : BitVec 5) : ∃ m control chr0 chr1 prgReg, c.dispatch a v =
    { c with mirror := m, control := control, chr0 := chr0, chr1 := chr1, prgReg := prgReg } := by
  unfold Cart.dispatch
  split
  · exact ⟨_, _, c.chr0, c.chr1, c.prgReg, rfl⟩
  · exact ⟨c.mirror, c.control, _, c.chr1, c.prgReg, rfl⟩
  · exact ⟨c.mirror, c.control, c.chr0, _, c.prgReg, rfl⟩
  · exact ⟨c.mirror, c.control, c.chr0, c.chr1, _, rfl⟩

/-- While the marker bit is above the bottom of the shift register, a data bit coming in keeps it (R91). -/
theorem shiftIn_ne_zero {shift : BitVec 5} (h : shift ≠ 0) (h0 : shift.getLsbD 0 = false) (d : Byte) : shiftIn shift d ≠ 0 := by
  have hmarker : shift >>> 1 ≠ 0 := by
    revert shift; decide
  intro hz
  exact hmarker (BitVec.or_eq_zero_iff.1 hz).1

/-- A serial write writes mapper 1's registers alone, and leaves the marker bit in the shift register (R91). -/
theorem serialWrite_eq (c : Cart) (a : Word) (d : Byte) : ∃ m shift control chr0 chr1 prgReg, c.serialWrite a d =
    { c with mirror := m, shift := shift, control := control, chr0 := chr0, chr1 := chr1, prgReg := prgReg } ∧
    (c.shift ≠ 0 → shift ≠ 0) := by
  unfold Cart.serialWrite
  split
  · exact ⟨c.mirror, _, _, c.chr0, c.chr1, c.prgReg, rfl, fun _ => by decide⟩
  split
  · obtain ⟨m, control, chr0, chr1, prgReg, h⟩ := dispatch_eq c a (shiftIn c.shift d)
    exact ⟨m, _, control, chr0, chr1, prgReg, by rw [h], fun _ => by decide⟩
  · rename_i h0
    exact ⟨c.mirror, _, c.control, c.chr0, c.chr1, c.prgReg, rfl, fun h => shiftIn_ne_zero h (by simpa using h0) d⟩

/-! ### The memories -/

theorem memoriesWf_iff (s : State) : s.memoriesWf = true ↔
    s.ram.wf 0x800 = true ∧ s.ntRam.wf 0x800 = true ∧ s.palRam.wf 32 = true ∧ s.ppu.oam.wf 256 = true ∧
      s.cart.prgRam.wf 0x2000 = true ∧ s.cart.prg.wf s.cart.prgSize = true ∧ s.cart.chr.wf s.cart.chrSize = true ∧
      Sparse.wf .transparent 256 s.ppu.spriteLine = true ∧ Sparse.wf 0 61440 s.ppu.frame0 = true ∧
      Sparse.wf 0 61440 s.ppu.frame1 = true := by
  simp only [State.memoriesWf, Bool.and_eq_true, and_assoc]

/-- Every primitive change keeps every memory in canonical form and in its size. -/
theorem Change.keeps_memoriesWf (s t : State) (h : Change s t) (hs : s.memoriesWf = true) : t.memoriesWf = true := by
  obtain ⟨ram, nt, pal, oam, save, prg, chr, line, frame0, frame1⟩ := (memoriesWf_iff s).1 hs
  rw [memoriesWf_iff]
  cases h with
  | ram k v hk => exact ⟨Memory.write_wf ram hk, nt, pal, oam, save, prg, chr, line, frame0, frame1⟩
  | ntRam k v hk => exact ⟨ram, Memory.write_wf nt hk, pal, oam, save, prg, chr, line, frame0, frame1⟩
  | palRam k v hk => exact ⟨ram, nt, Memory.write_wf pal hk, oam, save, prg, chr, line, frame0, frame1⟩
  | saveRam k v hk => exact ⟨ram, nt, pal, oam, Memory.write_wf save hk, prg, chr, line, frame0, frame1⟩
  | serial a d =>
    obtain ⟨m, shift, control, chr0, chr1, prgReg, hc, -⟩ := serialWrite_eq s.cart a d
    rw [hc]
    exact ⟨ram, nt, pal, oam, save, prg, chr, line, frame0, frame1⟩
  | oam k v => exact ⟨ram, nt, pal, Memory.write_wf oam k.isLt, save, prg, chr, line, frame0, frame1⟩
  | ports q hq =>
    simp only [Ppu.stores, Prod.mk.injEq] at hq
    obtain ⟨ho, hl, h0, h1, -⟩ := hq
    simp only [State.setPpu_ppu, ho, hl, h0, h1]
    exact ⟨ram, nt, pal, oam, save, prg, chr, line, frame0, frame1⟩
  | spriteLine l hl => exact ⟨ram, nt, pal, oam, save, prg, chr, hl, frame0, frame1⟩
  | pixel x y c hx hy =>
    have hk : 256 * y + x < 61440 := by omega
    unfold Ppu.putPixel
    split
    · exact ⟨ram, nt, pal, oam, save, prg, chr, line, frame0, Sparse.set_wf frame1 hk⟩
    · exact ⟨ram, nt, pal, oam, save, prg, chr, line, Sparse.set_wf frame0 hk, frame1⟩
  | _ => exact ⟨ram, nt, pal, oam, save, prg, chr, line, frame0, frame1⟩

/-- Settles O56: every step is a sequence of primitive changes, and each of them keeps the memories' form. -/
theorem stepsKeepMemoriesCanonical : Obligations.StepsKeepMemoriesCanonical :=
  fun _ _ hs h => (step_changes h).invariant Change.keeps_memoriesWf hs

/-! ### The registers -/

/-- Bits 5 and 4 of a legal P (R23). -/
theorem statusWf_iff (s : State) : s.statusWf = true ↔ s.p &&& 0x30 = 0x20 := by
  unfold State.statusWf
  generalize s.p = p
  revert p
  decide +kernel

theorem Change.keeps_statusWf (s t : State) (h : Change s t) (hs : s.statusWf = true) : t.statusWf = true := by
  cases h with
  | status p hp =>
    rw [statusWf_iff] at hs ⊢
    rcases hp with hp | hp
    · exact hp.trans hs
    · exact hp
  | _ => exact hs

/-- A pixel leaves everything of the PPU but the frames (R373). -/
theorem putPixel_eq (q : Ppu) (x y : Nat) (c : BitVec 6) :
    ∃ f0 f1, q.putPixel x y c = { q with frame0 := f0, frame1 := f1 } := by
  unfold Ppu.putPixel
  split
  · exact ⟨q.frame0, _, rfl⟩
  · exact ⟨_, q.frame1, rfl⟩

theorem Change.keeps_countersWf (s t : State) (h : Change s t) (hs : s.countersWf = true) : t.countersWf = true := by
  cases h with
  | ports q hq =>
    simp only [Ppu.stores, Prod.mk.injEq] at hq
    obtain ⟨-, -, -, -, hcycle, hline, -⟩ := hq
    simpa only [State.countersWf, State.setPpu_ppu, hcycle, hline] using hs
  | pixel x y c =>
    obtain ⟨f0, f1, hq⟩ := putPixel_eq s.ppu x y c
    rw [hq]
    exact hs
  | position cycle line hc hl =>
    simp only [State.countersWf, Bool.and_eq_true, decide_eq_true_eq] at hs ⊢
    exact ⟨hc, by rcases hl with hl | rfl; exacts [hl, hs.2]⟩
  | _ => exact hs

theorem Change.keeps_latchWf (s t : State) (h : Change s t) (hs : s.latchWf = true) : t.latchWf = true := by
  cases h with
  | ports q hq =>
    simp only [Ppu.stores, Prod.mk.injEq] at hq
    obtain ⟨-, -, -, -, -, -, hat⟩ := hq
    simpa only [State.latchWf, State.setPpu_ppu, hat] using hs
  | latch b hb => exact beq_iff_eq.2 hb
  | pixel x y c =>
    obtain ⟨f0, f1, hq⟩ := putPixel_eq s.ppu x y c
    rw [hq]
    exact hs
  | _ => exact hs

theorem Change.keeps_mapperWf (s t : State) (h : Change s t) (hs : s.mapperWf = true) : t.mapperWf = true := by
  cases h with
  | serial a d hk =>
    obtain ⟨m, shift, control, chr0, chr1, prgReg, hc, hshift⟩ := serialWrite_eq s.cart a d
    simp only [State.mapperWf, Bool.and_eq_true, bne_iff_ne] at hs
    simpa [State.mapperWf, hc, hk] using hshift hs.1
  | _ => exact hs

/-- A halt in the log stays there as the log grows. -/
theorem haltWf_record {s : State} (hs : s.haltWf = true) (f : FaultRecord) : (s.record f).haltWf = true := by
  unfold State.haltWf at hs ⊢
  rw [State.record_haltCause, State.record_running, State.record_faults]
  split at hs
  · exact hs
  · simp only [Bool.and_eq_true, List.contains_iff_mem, List.mem_append] at hs ⊢
    exact ⟨hs.1, .inl hs.2⟩

theorem Change.keeps_haltWf (s t : State) (h : Change s t) (hs : s.haltWf = true) : t.haltWf = true := by
  cases h with
  | halt op => simp [State.haltWf, haltOn]
  | resume => rfl
  | fault f => exact haltWf_record hs f
  | _ => exact hs

theorem raiseIrq_cycles (s : State) : s.raiseIrq.cycles = s.cycles := by
  unfold State.raiseIrq
  split <;> rfl

/-- A host move leaves the cycle count. -/
theorem hostMove_cycles (m : HostMove) (s : State) : (hostMove m s).cycles = s.cycles := by
  cases m with
  | run => rfl
  | raiseIRQ => exact raiseIrq_cycles s
  | reset => simp [hostMove, hostReset, cpuReset_eq]
  | quit => rfl

/-- An iteration uses its cycle count up, and a host move owes none (R420). -/
theorem step_settled {s t : State} (h : step s = .next t) (hs : s.settled = true) : t.settled = true := by
  rcases step_next h with ⟨rest, u, -, rfl⟩ | ⟨rest, m, rfl⟩
  · rfl
  · simpa only [State.settled, hostMove_cycles] using hs

/-- Settles O57: the primitive changes keep each part, and a step settles its own cycles. -/
theorem stepsKeepRegistersLegal : Obligations.StepsKeepRegistersLegal := by
  intro s t hs h
  have hc := step_changes h
  simp only [Bool.and_eq_true] at hs ⊢
  obtain ⟨⟨⟨⟨⟨hstatus, hcounters⟩, hlatch⟩, hmapper⟩, hhalt⟩, hsettled⟩ := hs
  exact ⟨⟨⟨⟨⟨hc.invariant Change.keeps_statusWf hstatus, hc.invariant Change.keeps_countersWf hcounters⟩,
    hc.invariant Change.keeps_latchWf hlatch⟩, hc.invariant Change.keeps_mapperWf hmapper⟩,
    hc.invariant Change.keeps_haltWf hhalt⟩, step_settled h hsettled⟩

/-! ### What no step changes -/

/-- The ROM, the mapper, the load diagnostics and the launch parameters. -/
def State.fixedParts (s : State) : MapperKind × Nat × Nat × Memory × Memory × List LoadWarning × Params :=
  (s.cart.kind, s.cart.nPrg, s.cart.nChr, s.cart.prg, s.cart.chr, s.loadDiag, s.params)

/-- What is fixed is as before, the fault log has only grown, and a quit has stayed. -/
structure Keeps (s t : State) : Prop where
  fixed : t.fixedParts = s.fixedParts
  faults : s.faults <+: t.faults
  quit : s.quit = true → t.quit = true

theorem Keeps.trans {s t u : State} (h : Keeps s t) (h' : Keeps t u) : Keeps s u :=
  ⟨h'.fixed.trans h.fixed, h.faults.trans h'.faults, h'.quit ∘ h.quit⟩

theorem Change.keeps {s t : State} (h : Change s t) : Keeps s t := by
  cases h with
  | halt op => exact ⟨rfl, List.prefix_append _ _, id⟩
  | fault f => exact ⟨rfl, List.prefix_append _ _, id⟩
  | serial a d =>
    obtain ⟨m, shift, control, chr0, chr1, prgReg, hc, -⟩ := serialWrite_eq s.cart a d
    exact ⟨by rw [hc]; rfl, List.prefix_rfl, id⟩
  | quit => exact ⟨rfl, List.prefix_rfl, fun _ => rfl⟩
  | _ => exact ⟨rfl, List.prefix_rfl, id⟩

theorem step_keeps {s t : State} (h : step s = .next t) : Keeps s t :=
  (step_changes h).invariant (fun _ _ hc hk => hk.trans hc.keeps) ⟨rfl, List.prefix_rfl, id⟩

/-- After a fault or a quit no state is a successful end (R422). -/
theorem Keeps.endedSuccessfully_eq_false {s t : State} (h : Keeps s t) (hs : s.faults ≠ [] ∨ s.quit = true) :
    t.endedSuccessfully = false := by
  rcases hs with hs | hs
  · have ht : t.faults ≠ [] := fun h0 => hs (List.prefix_nil.1 (h0 ▸ h.faults))
    simp [State.endedSuccessfully, ht]
  · simp [State.endedSuccessfully, h.quit hs]

/-- Settles O58: no primitive change touches what is fixed, shortens the log or takes a quit back. -/
theorem stepsKeepTheFaultLogAndTheRom : Obligations.StepsKeepTheFaultLogAndTheRom := by
  intro s t h
  have hk := step_keeps h
  have hfixed := hk.fixed
  simp only [State.fixedParts, Prod.mk.injEq] at hfixed
  obtain ⟨hkind, hnPrg, hnChr, hprg, hchr, hdiag, hparams⟩ := hfixed
  obtain ⟨new, hnew⟩ := hk.faults
  exact ⟨⟨new, hnew.symm⟩, hkind, hnPrg, hnChr, hprg, hchr, hdiag, hparams, hk.quit, hk.endedSuccessfully_eq_false⟩

end Sys2Proof.Machine
end

-- ---- Proofs: Pushing many bytes ----
section
/-! SUPPORT. The stack page after a list of pushes (R22, R73). -/

namespace Sys2Proof.Machine

/-- RAM with the bytes pushed one after the other from `sp` on. -/
def pushedRam (m : Memory) (sp : Byte) : List Byte → Memory
  | [] => m
  | b :: bs => pushedRam (m.write (0x100 + sp.toNat) b) (sp - 1) bs

/-- A list of pushes changes RAM and SP alone (R73). -/
theorem foldl_push (bs : List Byte) (s : State) : bs.foldl (fun u b => (push b u).state) s =
    { s with ram := pushedRam s.ram s.sp bs, sp := s.sp - BitVec.ofNat 8 bs.length } := by
  induction bs generalizing s with
  | nil => simp [pushedRam]
  | cons b bs ih =>
    have hsp : s.sp - 1 - BitVec.ofNat 8 bs.length = s.sp - BitVec.ofNat 8 (bs.length + 1) := by bv_omega
    rw [List.foldl_cons, ih, push_eq, Bus.state_ok, List.length_cons, ← hsp]
    rfl

/-- No byte outside the slots that are pushed to is written. -/
theorem pushedRam_read_other {bs : List Byte} {m : Memory} {sp : Byte} {a : Nat}
    (h : ∀ k < bs.length, a ≠ 0x100 + (sp - BitVec.ofNat 8 k).toNat) : (pushedRam m sp bs).read a = m.read a := by
  induction bs generalizing m sp with
  | nil => rfl
  | cons b bs ih =>
    have hhead : 0x100 + sp.toNat ≠ a := by simpa using (h 0 (by simp)).symm
    rw [pushedRam, ih, Memory.read_write_other hhead]
    intro k hk
    have hsp : sp - 1 - BitVec.ofNat 8 k = sp - BitVec.ofNat 8 (k + 1) := by bv_omega
    rw [hsp]
    exact h (k + 1) (by simpa using hk)

/-- A byte stands in its slot when at most 255 bytes are pushed after it. -/
theorem pushedRam_read_slot {bs : List Byte} {m : Memory} {sp : Byte} {k n : Nat} (hm : m.wf n = true) (hn : 0x200 ≤ n)
    (hk : k < bs.length) (hlen : bs.length ≤ k + 256) :
    some ((pushedRam m sp bs).read (0x100 + (sp - BitVec.ofNat 8 k).toNat)) = bs[k]? := by
  induction bs generalizing m sp k with
  | nil => simp at hk
  | cons b bs ih =>
    rw [List.length_cons] at hk hlen
    cases k with
    | zero =>
      have hlater : ∀ j < bs.length, 0x100 + sp.toNat ≠ 0x100 + (sp - 1 - BitVec.ofNat 8 j).toNat := by
        intro j hj
        bv_omega
      have hsp : sp - BitVec.ofNat 8 0 = sp := BitVec.sub_zero sp
      rw [pushedRam, hsp, pushedRam_read_other hlater, Memory.read_write_same hm]
      rfl
    | succ k =>
      have hsp : sp - BitVec.ofNat 8 (k + 1) = sp - 1 - BitVec.ofNat 8 k := by bv_omega
      rw [pushedRam, hsp, List.getElem?_cons_succ]
      exact ih (Memory.write_wf hm (by omega)) (by omega) (by omega)

/-- Settles O37: each slot holds the last byte pushed to it, and every slot is in page 1. -/
theorem stackWrapsWithinItsPage : Obligations.StackWrapsWithinItsPage := by
  intro s bs hs hlen
  obtain ⟨hram, -⟩ := (memoriesWf_iff s).1 hs
  refine ⟨_, rfl, ?_⟩
  rw [foldl_push, hlen]
  refine ⟨rfl, fun k hk1 hk => ?_, fun b hb => ?_, rfl⟩
  · exact pushedRam_read_slot hram (by decide) (by omega) (by omega)
  · refine pushedRam_read_other fun k _ => ?_
    have := (s.sp - BitVec.ofNat 8 k).isLt
    omega

end Sys2Proof.Machine
end

-- ---- Proofs: Word reads and accesses to no region ----
section
/-! SUPPORT. ReadWord and ReadWordBug (R70, R71), and the accesses to addresses in no region (R66). -/

namespace Sys2Proof.Machine

/-! ### Words -/

theorem mkWord_toNat (lo hi : Byte) : (mkWord lo hi).toNat = lo.toNat + 256 * hi.toNat := by
  rw [mkWord, BitVec.toNat_append, ← Nat.shiftLeft_add_eq_or_of_lt lo.isLt, Nat.shiftLeft_eq]
  omega

theorem loByte_toNat (w : Word) : (loByte w).toNat = w.toNat % 256 := by
  simp [loByte]

theorem hiByte_toNat (w : Word) : (hiByte w).toNat = w.toNat / 256 := by
  have := w.isLt
  simp only [hiByte, BitVec.toNat_setWidth, BitVec.toNat_ushiftRight, Nat.shiftRight_eq_div_pow]
  omega

theorem word_add_one (a : Word) : a + 1 = BitVec.ofNat 16 (a.toNat + 1) := by
  apply BitVec.eq_of_toNat_eq
  simp

/-- The high byte of a pointer comes from the pointer's own page (R71). -/
theorem samePageNext_eq (a : Word) : samePageNext a = BitVec.ofNat 16 (a.toNat / 256 * 256 + (a.toNat + 1) % 256) := by
  have := a.isLt
  have hone : (1 : Byte).toNat = 1 := rfl
  apply BitVec.eq_of_toNat_eq
  simp only [samePageNext, mkWord_toNat, BitVec.toNat_add, loByte_toNat, hiByte_toNat, BitVec.toNat_ofNat, hone]
  omega

/-- Settles O12: both operations are the two reads in order, the second at `a + 1` or at the next byte of the page. -/
theorem wordReadsAndThePageWrap : Obligations.WordReadsAndThePageWrap := by
  intro a s s1 s2 lo hi hlo
  refine ⟨fun hhi => ⟨mkWord lo hi, ?_, mkWord_toNat lo hi⟩, fun hhi => ⟨mkWord lo hi, ?_, mkWord_toNat lo hi⟩⟩
  · rw [readWord, hlo, Bus.bind_ok, word_add_one, hhi, Bus.bind_ok]
  · rw [readWordBug, hlo, Bus.bind_ok, samePageNext_eq, hhi, Bus.bind_ok]

/-! ### Accesses to no region -/

section
variable {a : Word} {s : State}

/-- An address is not writable when it is neither readable nor the port of OAM-DMA (R60, R66). -/
theorem writable_eq_false_iff : writable a = false ↔ readable a = false ∧ a ≠ 0x4014 := by
  simp [writable]

theorem cpuRead_recordAndContinue (h : readable a = false) (hp : s.params.busFaultPolicy = .recordAndContinue) :
    cpuRead a s = .ok (Config.busFaultRead s.draws)
      { s with faults := s.faults ++ [.busFault a .read], draws := s.draws + 1 } := by
  rw [cpuRead_illegal h, illegalRead, hp]
  rfl

theorem cpuRead_halt (h : readable a = false) (hp : s.params.busFaultPolicy = .halt) :
    cpuRead a s = .stop { s with faults := s.faults ++ [.busFault a .read] } := by
  rw [cpuRead_illegal h, illegalRead, hp]
  rfl

theorem cpuWrite_recordAndContinue (h : writable a = false) (hp : s.params.busFaultPolicy = .recordAndContinue) (d : Byte) :
    cpuWrite a d s = .ok () { s with faults := s.faults ++ [.busFault a .write] } := by
  rw [cpuWrite_illegal h, illegalWrite, hp]
  rfl

theorem cpuWrite_halt (h : writable a = false) (hp : s.params.busFaultPolicy = .halt) (d : Byte) :
    cpuWrite a d s = .stop { s with faults := s.faults ++ [.busFault a .write] } := by
  rw [cpuWrite_illegal h, illegalWrite, hp]
  rfl

end

/-- Under the halt policy no agent steps once a bus fault is in the log (R400, R420). -/
theorem stopReason_of_busFault {a : Word} {k : AccessKind} {s : State} (hp : s.params.busFaultPolicy = .halt)
    (h : .busFault a k ∈ s.faults) : stopReason s ≠ none := by
  have hfault : s.haltFault = true := by
    rw [State.haltFault, hp, Bool.and_eq_true]
    exact ⟨rfl, List.any_eq_true.2 ⟨_, h, rfl⟩⟩
  rw [stopReason, hfault]
  split <;> simp

/-- Settles O36: the access is one of `illegalRead` and `illegalWrite`, and the record it leaves stops the halt policy's
machine. -/
theorem illegalAccessIsRecorded : Obligations.IllegalAccessIsRecorded := by
  intro a d s hlo hhi hport
  have hread : readable a = false := (readable_eq_false_iff a).2 ⟨hlo, hhi, hport⟩
  have hwrite (hdma : a ≠ 0x4014) : writable a = false := writable_eq_false_iff.2 ⟨hread, hdma⟩
  refine ⟨fun hp => ⟨⟨_, cpuRead_recordAndContinue hread hp⟩, fun hdma => cpuWrite_recordAndContinue (hwrite hdma) hp d⟩,
    fun hp => ⟨cpuRead_halt hread hp, fun hdma => cpuWrite_halt (hwrite hdma) hp d, fun t k ht hmem => ?_⟩⟩
  exact stopReason_of_busFault (ht ▸ hp) hmem

end Sys2Proof.Machine
end

-- ---- Proofs: The PPU bus ----
section
/-! SUPPORT. The PPU bus: what a read gives and a write leaves in each of its regions (R80 to R82). -/

namespace Sys2Proof.Machine

section
variable {a : Word} (d : Byte) (s : State)

/-! ### The regions -/

theorem ppuRead_pattern (h : a.toNat % 0x4000 ≤ 0x1FFF) : ppuRead a s = s.cart.ppuRead (a.toNat % 0x4000) := by
  simp only [ppuRead, if_pos h]

/-- CHR is ROM, so a write to the pattern tables has no effect (R88, R95). -/
theorem ppuWrite_pattern (h : a.toNat % 0x4000 ≤ 0x1FFF) : ppuWrite a d s = s := by
  simp only [ppuWrite, if_pos h]
  rfl

theorem ppuRead_nametable (hlo : 0x2000 ≤ a.toNat % 0x4000) (hhi : a.toNat % 0x4000 ≤ 0x3EFF) :
    ppuRead a s = s.ntRam.read (s.cart.ntIndex (a.toNat % 0x4000)) := by
  simp only [ppuRead, if_neg (by omega : ¬ a.toNat % 0x4000 ≤ 0x1FFF), if_pos hhi]

theorem ppuWrite_nametable (hlo : 0x2000 ≤ a.toNat % 0x4000) (hhi : a.toNat % 0x4000 ≤ 0x3EFF) :
    ppuWrite a d s = { s with ntRam := s.ntRam.write (s.cart.ntIndex (a.toNat % 0x4000)) d } := by
  simp only [ppuWrite, if_neg (by omega : ¬ a.toNat % 0x4000 ≤ 0x1FFF), if_pos hhi]

theorem ppuRead_palette (h : 0x3F00 ≤ a.toNat % 0x4000) : ppuRead a s = s.palRam.read (palIndex (a.toNat % 0x4000)) := by
  simp only [ppuRead, if_neg (by omega : ¬ a.toNat % 0x4000 ≤ 0x1FFF), if_neg (by omega : ¬ a.toNat % 0x4000 ≤ 0x3EFF)]

theorem ppuWrite_palette (h : 0x3F00 ≤ a.toNat % 0x4000) :
    ppuWrite a d s = { s with palRam := s.palRam.write (palIndex (a.toNat % 0x4000)) d } := by
  simp only [ppuWrite, if_neg (by omega : ¬ a.toNat % 0x4000 ≤ 0x1FFF), if_neg (by omega : ¬ a.toNat % 0x4000 ≤ 0x3EFF)]

end

/-! ### Mirroring -/

/-- The table that backs an address, under each mirroring (R81). -/
theorem mirroringTable_eq (c : Cart) (n : Nat) : c.mirroringTable n = (match c.mirror with
    | .horizontal => n / 0x800 % 2 | .vertical => n / 0x400 % 2 | .single0 => 0 | .single1 => 1) := by
  unfold Cart.mirroringTable Mirror.table
  cases c.mirror <;> dsimp only <;> omega

/-- Nametable addresses 0x1000 apart name the same byte (R80, R81). -/
theorem ntIndex_congr (c : Cart) {m n : Nat} (h : m % 0x1000 = n % 0x1000) : c.ntIndex m = c.ntIndex n := by
  have htable : m / 0x400 % 4 = n / 0x400 % 4 := by omega
  have hoffset : m % 0x400 = n % 0x400 := by omega
  rw [Cart.ntIndex, Cart.ntIndex, Cart.mirroringTable, Cart.mirroringTable, htable, hoffset]

/-- The backdrop entries of the sprite palettes are those of the background palettes (R82). -/
theorem palIndex_of_backdrop {n : Nat} (h : n % 4 = 0) : palIndex n = n % 16 := by
  unfold palIndex
  dsimp only
  split <;> omega

theorem palIndex_of_colour {n : Nat} (h : n % 4 ≠ 0) : palIndex n = n % 32 := by
  unfold palIndex
  dsimp only
  split <;> omega

/-- The nametables stand twice in the address space (R80). -/
theorem ppuBus_mirrored {a : Word} (d : Byte) (s : State) (hlo : 0x3000 ≤ a.toNat % 0x4000)
    (hhi : a.toNat % 0x4000 ≤ 0x3EFF) : ppuRead a s = ppuRead (a - 0x1000) s ∧ ppuWrite a d s = ppuWrite (a - 0x1000) d s := by
  have hbase : (a - 0x1000).toNat = a.toNat - 0x1000 := by bv_omega
  have hindex : s.cart.ntIndex (a.toNat % 0x4000) = s.cart.ntIndex ((a - 0x1000).toNat % 0x4000) :=
    ntIndex_congr s.cart (by omega)
  rw [ppuRead_nametable s (by omega) hhi, ppuRead_nametable s (by omega) (by omega), ppuWrite_nametable d s (by omega) hhi,
    ppuWrite_nametable d s (by omega) (by omega), hindex]
  exact ⟨rfl, rfl⟩

/-- A byte written to a nametable or the palette is read back. -/
theorem ppuRead_ppuWrite {a : Word} {d : Byte} {s : State} (hnt : s.ntRam.wf 0x800 = true) (hpal : s.palRam.wf 32 = true)
    (h : 0x2000 ≤ a.toNat % 0x4000) : ppuRead a (ppuWrite a d s) = d := by
  by_cases hhi : a.toNat % 0x4000 ≤ 0x3EFF
  · rw [ppuWrite_nametable d s h hhi, ppuRead_nametable _ h hhi]
    exact Memory.read_write_same hnt
  · rw [ppuWrite_palette d s (by omega), ppuRead_palette _ (by omega)]
    exact Memory.read_write_same hpal

/-- Settles O38: region by region, with the index in nametable RAM and palette RAM as a function of the address alone. -/
theorem ppuBusMirroring : Obligations.PpuBusMirroring := by
  intro a d s hs
  obtain ⟨-, hnt, hpal, -⟩ := (memoriesWf_iff s).1 hs
  have hindex : s.cart.ntIndex (a.toNat % 0x4000) = s.cart.mirroringTable a.toNat * 0x400 + a.toNat % 0x400 :=
    ntIndex_congr s.cart (by omega)
  refine ⟨mirroringTable_eq s.cart, fun h => ⟨ppuRead_pattern s h, ppuWrite_pattern d s h⟩, fun hlo hhi => ?_,
    ppuBus_mirrored d s, fun h => ⟨fun hentry => ?_, fun hentry => ?_⟩, ppuRead_ppuWrite hnt hpal⟩
  · rw [ppuRead_nametable s hlo hhi, ppuWrite_nametable d s hlo hhi, hindex]
    exact ⟨rfl, rfl⟩
  · have hpalette : palIndex (a.toNat % 0x4000) = a.toNat % 16 := by
      rw [palIndex_of_backdrop (by omega)]
      omega
    rw [ppuRead_palette s h, ppuWrite_palette d s h, hpalette]
    exact ⟨rfl, rfl⟩
  · have hpalette : palIndex (a.toNat % 0x4000) = a.toNat % 32 := by
      rw [palIndex_of_colour (by omega)]
      omega
    rw [ppuRead_palette s h, ppuWrite_palette d s h, hpalette]
    exact ⟨rfl, rfl⟩

end Sys2Proof.Machine
end

-- ---- Proofs: The cartridge ----
section
/-! SUPPORT. Where cartridge addresses lead under both mappers (R86 to R95), and mapper 1's serial port (R91, R92). -/

namespace Sys2Proof.Machine

section
variable {c : Cart} {a : Word} {n : Nat}

/-! ### Save RAM and the banks -/

theorem cartRead_saveRam (h : a.toNat ≤ 0x7FFF) : c.cpuRead a = c.prgRam.read (a.toNat - 0x6000) := by
  rw [Cart.cpuRead, if_pos h]

theorem cartRead_rom (h : 0x8000 ≤ a.toNat) : c.cpuRead a = c.prg.read (c.prgIndex a) := by
  rw [Cart.cpuRead, if_neg (by omega)]

theorem cartWrite_saveRam (h : a.toNat ≤ 0x7FFF) (d : Byte) :
    c.cpuWrite a d = { c with prgRam := c.prgRam.write (a.toNat - 0x6000) d } := by
  rw [Cart.cpuWrite, if_pos h]

/-- A fixed-bank cartridge ignores writes to its ROM (R87). -/
theorem cartWrite_fixed (hk : c.kind = .fixed) (h : 0x8000 ≤ a.toNat) (d : Byte) : c.cpuWrite a d = c := by
  rw [Cart.cpuWrite, if_neg (by omega), hk]

/-- Mapper 1's ROM space is its serial port (R91). -/
theorem cartWrite_shiftBanked (hk : c.kind = .shiftBanked) (h : 0x8000 ≤ a.toNat) (d : Byte) :
    c.cpuWrite a d = c.serialWrite a d := by
  rw [Cart.cpuWrite, if_neg (by omega), hk]

theorem prgIndex_fixed (hk : c.kind = .fixed) : c.prgIndex a = (a.toNat - 0x8000) % (16384 * c.nPrg) := by
  rw [Cart.prgIndex, hk, Cart.prgSize]

theorem prgIndex_low (hk : c.kind = .shiftBanked) (h : a.toNat ≤ 0xBFFF) :
    c.prgIndex a = (c.prgLowBank % c.nPrg) * 0x4000 + a.toNat % 0x4000 := by
  simp only [Cart.prgIndex, hk, if_pos h]

theorem prgIndex_high (hk : c.kind = .shiftBanked) (h : 0xC000 ≤ a.toNat) :
    c.prgIndex a = (c.prgHighBank % c.nPrg) * 0x4000 + a.toNat % 0x4000 := by
  simp only [Cart.prgIndex, hk, if_neg (by omega : ¬ a.toNat ≤ 0xBFFF)]

theorem evenBank_eq (r : BitVec 5) : r.toNat &&& 0x0E = r.toNat % 16 / 2 * 2 := by
  revert r; decide

theorem fullBank_eq (r : BitVec 5) : r.toNat &&& 0x0F = r.toNat % 16 := by
  revert r; decide

/-- The low PRG bank in integers (R93). -/
theorem prgLowBank_eq (c : Cart) : c.prgLowBank =
    if c.control.toNat / 4 % 4 ≤ 1 then c.prgReg.toNat % 16 / 2 * 2
    else if c.control.toNat / 4 % 4 = 2 then 0 else c.prgReg.toNat % 16 := by
  rw [Cart.prgLowBank, Cart.prgMode, evenBank_eq, fullBank_eq]

/-- The high PRG bank in integers (R93). -/
theorem prgHighBank_eq (c : Cart) : c.prgHighBank =
    if c.control.toNat / 4 % 4 ≤ 1 then c.prgReg.toNat % 16 / 2 * 2 + 1
    else if c.control.toNat / 4 % 4 = 2 then c.prgReg.toNat % 16 else c.nPrg - 1 := by
  rw [Cart.prgHighBank, Cart.prgMode, evenBank_eq, fullBank_eq]

theorem chrIndex_fixed (hk : c.kind = .fixed) : c.chrIndex n = n % (8192 * c.nChr) := by
  rw [Cart.chrIndex, hk, Cart.chrSize]

theorem chrIndex_low (hk : c.kind = .shiftBanked) (h : n ≤ 0x0FFF) :
    c.chrIndex n = (c.chr0.toNat % (2 * c.nChr)) * 0x1000 + n % 0x1000 := by
  simp only [Cart.chrIndex, hk, if_pos h]

/-- The CHR mode is the top bit of Control (R92). -/
theorem chrSplit_eq (c : Cart) : c.chrSplit = !decide (c.control.toNat / 16 = 0) := by
  unfold Cart.chrSplit
  generalize c.control = r
  revert r
  decide

theorem chrIndex_high (hk : c.kind = .shiftBanked) (h : 0x1000 ≤ n) : c.chrIndex n =
    ((if c.control.toNat / 16 = 0 then c.chr0.toNat + 1 else c.chr1.toNat) % (2 * c.nChr)) * 0x1000 + n % 0x1000 := by
  simp only [Cart.chrIndex, hk, if_neg (by omega : ¬ n ≤ 0x0FFF), chrSplit_eq]
  by_cases hmode : c.control.toNat / 16 = 0 <;> simp [hmode]

end

/-- Settles O40: save RAM, and then the index into PRG and CHR of each mapper. -/
theorem cartridgeBanks : Obligations.CartridgeBanks := by
  intro c a d n hn
  refine ⟨rfl, fun _ hhi => ⟨cartRead_saveRam hhi, cartWrite_saveRam hhi d⟩,
    fun hk => ⟨fun hrom => ⟨?_, cartWrite_fixed hk hrom d⟩, ?_⟩,
    fun hk => ⟨fun hlo hhi => ?_, fun hhigh => ?_, fun hlow => ?_, fun hhigh => ?_⟩⟩
  · rw [cartRead_rom hrom, prgIndex_fixed hk]
  · rw [Cart.ppuRead, chrIndex_fixed hk]
  · rw [cartRead_rom hlo, prgIndex_low hk hhi, prgLowBank_eq]
  · rw [cartRead_rom (by omega), prgIndex_high hk hhigh, prgHighBank_eq]
  · rw [Cart.ppuRead, chrIndex_low hk hlow]
  · rw [Cart.ppuRead, chrIndex_high hk hhigh]

/-! ### The serial port -/

/-- A dispatch selects its register by the 8KB block of the address (R92). -/
theorem dispatch_eq_dispatched (c : Cart) {a : Word} (h : 0x8000 ≤ a.toNat) (v : BitVec 5) :
    c.dispatch a v = dispatched c a v := by
  have hmirror : mirrorOfControl v = if v.toNat % 4 = 0 then .single0 else if v.toNat % 4 = 1 then .single1
      else if v.toNat % 4 = 2 then .vertical else .horizontal := by
    revert v; decide
  have ha := a.isLt
  by_cases h0 : a.toNat ≤ 0x9FFF
  · have hblock : a.toNat / 0x2000 % 4 = 0 := by omega
    simp only [Cart.dispatch, hblock, dispatched, if_pos h0, hmirror]
  by_cases h1 : a.toNat ≤ 0xBFFF
  · have hblock : a.toNat / 0x2000 % 4 = 1 := by omega
    simp only [Cart.dispatch, hblock, dispatched, if_neg h0, if_pos h1]
  by_cases h2 : a.toNat ≤ 0xDFFF
  · have hblock : a.toNat / 0x2000 % 4 = 2 := by omega
    simp only [Cart.dispatch, hblock, dispatched, if_neg h0, if_neg h1, if_pos h2]
  · have hblock : a.toNat / 0x2000 % 4 = 3 := by omega
    simp only [Cart.dispatch, hblock, dispatched, if_neg h0, if_neg h1, if_neg h2]

/-- A dispatch neither reads nor writes the shift register (R92). -/
theorem dispatched_withShift (c : Cart) (a : Word) (v r : BitVec 5) :
    dispatched { c with shift := r } a v = { dispatched c a v with shift := r } := by
  unfold dispatched
  split
  · rfl
  split
  · rfl
  split <;> rfl

/-- The data bit comes in at the top of the shift register (R91). -/
theorem shiftIn_top (r : BitVec 5) (d : Byte) : (shiftIn r d).getLsbD 4 = d.getLsbD 0 := by
  revert r; revert d; decide +kernel

/-- The other bits move down one place (R91). -/
theorem shiftIn_below (r : BitVec 5) (d : Byte) {k : Nat} (hk : k < 4) : (shiftIn r d).getLsbD k = r.getLsbD (k + 1) := by
  have hin : (BitVec.ofNat 5 (d.toNat % 2) <<< 4).getLsbD k = false := by
    rw [BitVec.getLsbD_shiftLeft, decide_eq_true hk]
    simp
  rw [shiftIn, BitVec.getLsbD_or, hin, BitVec.getLsbD_ushiftRight, Bool.or_false, Nat.add_comm]

theorem shiftIn_getLsbD (r : BitVec 5) (d : Byte) {k : Nat} (hk : k < 5) :
    (shiftIn r d).getLsbD k = if k = 4 then d.getLsbD 0 else r.getLsbD (k + 1) := by
  split
  · subst k
    exact shiftIn_top r d
  · exact shiftIn_below r d (by omega)

section
variable {c : Cart} {a : Word} {d : Byte} (hk : c.kind = .shiftBanked) (ha : 0x8000 ≤ a.toNat)
include hk ha

/-- A write with bit 7 resets the shift register and sets PRG mode 3 (R91). -/
theorem serial_reset (hd : d.getLsbD 7 = true) :
    c.cpuWrite a d = { c with shift := 0b10000, control := c.control ||| 0x0C } := by
  rw [cartWrite_shiftBanked hk ha, Cart.serialWrite, if_pos hd]

variable {r : BitVec 5} (hd : d.getLsbD 7 = false)
include hd

/-- A data bit comes in while the marker bit is above the bottom (R91). -/
theorem serial_shift (hmarker : r.getLsbD 0 = false) :
    { c with shift := r }.cpuWrite a d = { c with shift := shiftIn r d } := by
  rw [cartWrite_shiftBanked (c := { c with shift := r }) hk ha, Cart.serialWrite, if_neg (ne_true_of_eq_false hd),
    if_neg (ne_true_of_eq_false hmarker)]

/-- The fifth data bit dispatches the five and resets the shift register (R91, R92). -/
theorem serial_dispatch (hmarker : r.getLsbD 0 = true) :
    { c with shift := r }.cpuWrite a d = { dispatched c a (shiftIn r d) with shift := 0b10000 } := by
  rw [cartWrite_shiftBanked (c := { c with shift := r }) hk ha, Cart.serialWrite, if_neg (ne_true_of_eq_false hd),
    if_pos hmarker, dispatch_eq_dispatched _ ha, dispatched_withShift]

end

/-- Five data bits after a reset: the marker bit is at the bottom when the fifth comes in (R91, R92). -/
theorem serial_five_bits {c : Cart} {a1 a2 a3 a4 a5 : Word} {d1 d2 d3 d4 d5 : Byte} (hk : c.kind = .shiftBanked)
    (h1 : 0x8000 ≤ a1.toNat) (h2 : 0x8000 ≤ a2.toNat) (h3 : 0x8000 ≤ a3.toNat) (h4 : 0x8000 ≤ a4.toNat)
    (h5 : 0x8000 ≤ a5.toNat) (hd1 : d1.getLsbD 7 = false) (hd2 : d2.getLsbD 7 = false) (hd3 : d3.getLsbD 7 = false)
    (hd4 : d4.getLsbD 7 = false) (hd5 : d5.getLsbD 7 = false) (hshift : c.shift = 0b10000) :
    ((((c.cpuWrite a1 d1).cpuWrite a2 d2).cpuWrite a3 d3).cpuWrite a4 d4).cpuWrite a5 d5 =
      dispatched c a5 ([d1, d2, d3, d4, d5].foldl shiftIn 0b10000) := by
  have hreset : { c with shift := 0b10000 } = c := by rw [← hshift]
  have hmarker : (0b10000 : BitVec 5).getLsbD 0 = false ∧ (0b10000 : BitVec 5).getLsbD 1 = false ∧
      (0b10000 : BitVec 5).getLsbD 2 = false ∧ (0b10000 : BitVec 5).getLsbD 3 = false ∧
      (0b10000 : BitVec 5).getLsbD 4 = true := by decide
  obtain ⟨m0, m1, m2, m3, m4⟩ := hmarker
  conv_lhs => rw [← hreset]
  rw [serial_shift hk h1 hd1 m0,
    serial_shift hk h2 hd2 (by simp (disch := decide) only [Nat.reduceAdd, shiftIn_below, m1]),
    serial_shift hk h3 hd3 (by simp (disch := decide) only [Nat.reduceAdd, shiftIn_below, m2]),
    serial_shift hk h4 hd4 (by simp (disch := decide) only [Nat.reduceAdd, shiftIn_below, m3]),
    serial_dispatch hk h5 hd5 (by simp (disch := decide) only [Nat.reduceAdd, shiftIn_below, m4]),
    ← dispatched_withShift, hreset]
  rfl

/-- Settles O39: one write is a reset, a shift or a dispatch, and five writes are four shifts and a dispatch. -/
theorem serialPortSequence : Obligations.SerialPortSequence := by
  intro c a1 a2 a3 a4 a5 d1 d2 d3 d4 d5 hk h1 h2 h3 h4 h5
  refine ⟨fun s hs => ?_, serial_reset hk h1, fun hd => ⟨shiftIn c.shift d1, fun k => shiftIn_getLsbD c.shift d1, ?_⟩,
    fun hshift hd1 hd2 hd3 hd4 hd5 => ⟨_, ?_, ?_, ?_, ?_, ?_,
      serial_five_bits hk h1 h2 h3 h4 h5 hd1 hd2 hd3 hd4 hd5 hshift⟩⟩
  · rw [cpuWrite_cart (by omega), hs]
  · cases hmarker : c.shift.getLsbD 0 with
    | false => rw [if_pos rfl, ← serial_shift hk h1 hd hmarker]
    | true => rw [if_neg (by decide), ← serial_dispatch hk h1 hd hmarker]
  all_goals simp (disch := decide) only [List.foldl_cons, List.foldl_nil, Nat.reduceAdd, shiftIn_below, shiftIn_top]

end Sys2Proof.Machine
end

-- ---- Proofs: The loader ----
section
/-! SUPPORT. `loadGame`: the header, the image's bytes and the fills (R100 to R102, R440). -/

namespace Sys2Proof.Machine

/-! ### Memories made of bytes -/

/-- Below its first address a memory made of bytes is empty. -/
theorem Memory.read_ofBytes_below (l : List Byte) {a k : Nat} (hk : k < a) : (Memory.ofBytes a l).read k = Memory.unlisted :=
  Sparse.get_of_lt (Memory.ofBytes_wfFrom (le_refl _)) hk

/-- A memory made of bytes holds them in order. -/
theorem Memory.read_ofBytes (l : List Byte) (a k : Nat) :
    (Memory.ofBytes a l).read (a + k) = l[k]?.getD Memory.unlisted := by
  induction l generalizing a k with
  | nil => rfl
  | cons v rest ih =>
    cases k with
    | zero =>
      unfold Memory.ofBytes
      split
      · rename_i hv
        rw [Memory.read_ofBytes_below rest (by omega), hv]
        rfl
      · simp [Memory.read, Sparse.get]
    | succ k =>
      have hrest := ih (a + 1) k
      rw [show a + 1 + k = a + (k + 1) by omega] at hrest
      unfold Memory.ofBytes
      split
      · exact hrest
      · rw [Memory.read, Sparse.get, if_neg (by omega)]
        exact hrest

/-- A filled memory holds the fill (R440). -/
theorem filled_read (fill : Nat → Byte) {n k : Nat} (hk : k < n) : (filled fill n).read k = fill k := by
  have h := Memory.read_ofBytes ((List.range n).map fill) 0 k
  rw [Nat.zero_add] at h
  rw [filled, h]
  simp [hk]

/-- A byte of the image, or the fill of its place when the image ends before it (R102). -/
theorem imageBytes_getElem? (missing : Nat → Byte) (image : List Byte) {start n k : Nat} (hk : k < n) :
    (imageBytes missing image start n)[k]? = some ((image[start + k]?).getD (missing (start + k))) := by
  have hlen : ((image.drop start).take n).length = min n (image.length - start) := by simp
  unfold imageBytes
  dsimp only
  by_cases hin : start + k < image.length
  · rw [List.getElem?_append_left (by omega), List.getElem?_take_of_lt hk, List.getElem?_drop, List.getElem?_eq_getElem hin]
    rfl
  · rw [List.getElem?_append_right (by omega), List.getElem?_eq_none (by omega : image.length ≤ start + k), List.getElem?_map,
      List.getElem?_range (by omega)]
    simp only [Option.map_some, Option.getD_none]
    congr 2
    omega

/-- The cartridge's ROM holds the image from `start` on (R100, R102). -/
theorem imageMemory_read (missing : Nat → Byte) (image : List Byte) {start n k : Nat} (hk : k < n) :
    (Memory.ofBytes 0 (imageBytes missing image start n)).read k = (image[start + k]?).getD (missing (start + k)) := by
  have h := Memory.read_ofBytes (imageBytes missing image start n) 0 k
  rw [Nat.zero_add] at h
  rw [h, imageBytes_getElem? missing image hk]
  rfl

/-! ### The header -/

/-- The mapper ID is the two high nibbles (R100). -/
theorem mapperId_toNat (b6 b7 : Byte) : (mapperId b6 b7).toNat = b6.toNat / 16 + b7.toNat / 16 * 16 := by
  have hhigh : (b7 &&& 0xF0).toNat = (b7.toNat / 16) <<< 4 := by
    revert b7; decide +kernel
  have hlow : b6.toNat / 16 < 2 ^ 4 := by
    have := b6.isLt
    omega
  rw [mapperId, BitVec.toNat_or, hhigh, BitVec.toNat_ushiftRight, Nat.shiftRight_eq_div_pow, Nat.or_comm,
    ← Nat.shiftLeft_add_eq_or_of_lt hlow, Nat.shiftLeft_eq, Nat.add_comm]

/-- The console that `loadGame` resets (R440). -/
def loadedState (fill : FillRegion → Nat → Byte) (missing : Nat → Byte) (params : Params) (image : List Byte)
    (b4 b5 b6 b7 : Byte) : State :=
  { State.reset with
    ram := filled (fill .ram) 0x800
    ntRam := filled (fill .ntRam) 0x800
    palRam := filled (fill .palRam) 32
    ppu := { Ppu.initial with oam := filled (fill .oam) 256 }
    cart := buildCart (selectMapper (mapperId b6 b7) image.length (imageLength b4.toNat b5.toNat)).1 b4.toNat b5.toNat
      (headerMirror b6) (filled (fill .prgRam) 0x2000) missing image
    loadDiag := (selectMapper (mapperId b6 b7) image.length (imageLength b4.toNat b5.toNat)).2
    params := params }

section
variable (fill : FillRegion → Nat → Byte) (missing : Nat → Byte) (params : Params) {image : List Byte}

/-- An image without a full header is refused (R102). -/
theorem loadGame_short (h : image.length < 16) : loadGame fill missing params image = .error .shortHeader := by
  unfold loadGame
  split
  · simp only [List.length_cons] at h
    omega
  · rfl

/-- The sixteen bytes of a full header, and what follows them. -/
theorem header_of_length (h : 16 ≤ image.length) : image =
    image[0] :: image[1] :: image[2] :: image[3] :: image[4] :: image[5] :: image[6] :: image[7] :: image[8] :: image[9] ::
      image[10] :: image[11] :: image[12] :: image[13] :: image[14] :: image[15] :: image.drop 16 := by
  simp only [List.getElem_cons_drop, List.drop_zero]

/-- What `loadGame` answers to an image with a full header (R102, R440). -/
theorem loadGame_eq {b4 b5 b6 b7 : Byte} (h : 16 ≤ image.length) (h4 : image[4]? = some b4) (h5 : image[5]? = some b5)
    (h6 : image[6]? = some b6) (h7 : image[7]? = some b7) : loadGame fill missing params image =
      if b4 = 0 then .error .noPrg else if b5 = 0 then .error .chrRamUnsupported
      else .ok (hostReset (loadedState fill missing params image b4 b5 b6 b7)) := by
  unfold loadGame
  split
  · simp only [List.getElem?_cons_succ, List.getElem?_cons_zero, Option.some.injEq] at h4 h5 h6 h7
    subst h4 h5 h6 h7
    rfl
  · rename_i hshort
    exact (hshort _ _ _ _ _ _ _ _ _ _ _ _ _ _ _ _ _ (header_of_length h)).elim

end

section
variable (id : Byte) (length full : Nat)

/-- Which mapper an image gets (R101, R102). -/
theorem selectMapper_kind :
    (selectMapper id length full).1 = if id.toNat = 1 ∧ full ≤ length then .shiftBanked else .fixed := by
  have hone : id = 1 ↔ id.toNat = 1 := BitVec.toNat_inj.symm
  simp only [selectMapper, hone]

/-- The diagnostics of a load (R101, R102). -/
theorem selectMapper_diag :
    (selectMapper id length full).2 =
      (if id.toNat = 0 ∨ id.toNat = 1 then [] else [.mapperFallback (BitVec.ofNat 8 id.toNat)]) ++
      (if length < full then [.truncatedBody length] else []) := by
  have hzero : id = 0 ↔ id.toNat = 0 := BitVec.toNat_inj.symm
  have hone : id = 1 ↔ id.toNat = 1 := BitVec.toNat_inj.symm
  simp only [selectMapper, hzero, hone, BitVec.ofNat_toNat, BitVec.setWidth_eq]

end

/-- What `reset()` makes of a console (R441 to R443). -/
theorem hostReset_eq (s : State) : hostReset s = { s with
    pc := mkWord (s.cart.cpuRead 0xFFFC) (s.cart.cpuRead 0xFFFD)
    sp := 0xFD, p := 0x24, a := 0, x := 0, y := 0, pending := none, running := true, haltCause := none
    ppu := s.ppu.afterReset } := by
  rw [hostReset, cpuReset_eq]
  rfl

/-- Settles O55: past the header, the console is the reset of `loadedState`. -/
theorem loadGameBuildsTheConsole : Obligations.LoadGameBuildsTheConsole := by
  intro fill missing params image
  refine ⟨loadGame_short fill missing params, fun b4 b5 b6 b7 hlen h4 h5 h6 h7 => ?_⟩
  rw [loadGame_eq fill missing params hlen h4 h5 h6 h7]
  refine ⟨fun hprg => if_pos hprg, fun hprg hchr => by rw [if_neg hprg, if_pos hchr], fun hprg hchr id full hid hfull => ?_⟩
  rw [← mapperId_toNat] at hid
  replace hfull : full = imageLength b4.toNat b5.toNat := hfull
  subst hid hfull
  refine ⟨_, by rw [if_neg hprg, if_neg hchr], ?_⟩
  rw [hostReset_eq, loadedState]
  dsimp only [buildCart, Ppu.afterReset]
  exact ⟨rfl, rfl, selectMapper_kind _ _ _, rfl, rfl, rfl, rfl, rfl, rfl, selectMapper_diag _ _ _,
    fun k hk => imageMemory_read missing image hk, fun k hk => imageMemory_read missing image hk,
    fun k hk => ⟨filled_read _ hk, filled_read _ hk⟩, fun k hk => filled_read _ hk, fun k hk => filled_read _ hk,
    fun k hk => filled_read _ hk, rfl, rfl, rfl, rfl, rfl, rfl, rfl, rfl, rfl, rfl, rfl, rfl, rfl, rfl⟩

end Sys2Proof.Machine
end

-- ---- Proofs: The shapes of the memory instructions ----
section
/-! SUPPORT. Each instruction with a memory operand is a read, a write or a read-modify-write (R150), behind the gate of R280
when its opcode is of class unofficial. -/

namespace Sys2Proof.Machine

/-! ### The gate -/

/-- The instructions that UNOFFICIAL_SET can leave out (R280 to R290). -/
def gatedInstr : Instr → Bool
  | .nopUnofficial _ _ | .lax _ | .sax _ | .sbcEB _ | .dcp _ | .isb _ | .slo _ | .rla _ | .sre _ | .rra _ => true
  | _ => false

/-- An effect behind the instruction's gate, if it has one. -/
def behindGate (i : Instr) (k : State → Result) (s : State) : Result := if gatedInstr i then gated i k s else k s

theorem gated_open {i : Instr} {s : State} (k : State → Result) (h : s.params.unofficialSet.contains i.opcode = true) :
    gated i k s = k s := if_pos h

theorem gated_closed {i : Instr} {s : State} (k : State → Result) (h : s.params.unofficialSet.contains i.opcode = false) :
    gated i k s = haltTick i.opcode s := if_neg (ne_true_of_eq_false h)

theorem behindGate_cases (i : Instr) (k : State → Result) (s : State) :
    behindGate i k s = k s ∨ behindGate i k s = haltTick i.opcode s := by
  unfold behindGate gated
  split
  · split
    · exact .inl rfl
    · exact .inr rfl
  · exact .inl rfl

/-- The cells of the unofficial NOPs are of class unofficial (R281). -/
theorem nopCells_unofficial {m : NopOperand} {op : Byte} (h : op ∈ m.cells) : (rowOf op).cls = .unofficial := by
  have hcells : ∀ op ∈ nopImpliedOpcodes ++ nopImmediateOpcodes ++ nopZeroPageOpcodes ++ nopZeroPageXOpcodes ++
      nopAbsoluteOpcodes ++ nopAbsoluteXOpcodes, (rowOf op).cls = .unofficial := by decide +kernel
  refine hcells op ?_
  simp only [List.mem_append]
  unfold NopOperand.cells at h
  split at h <;> simp_all

/-- A well-formed instruction behind the gate stands in a row of class unofficial (R124, R280). -/
theorem gatedInstr_unofficial {i : Instr} (hg : gatedInstr i = true) (hwf : i.wellFormed = true) :
    (rowOf i.opcode).cls = .unofficial := by
  unfold gatedInstr at hg
  split at hg
  · exact nopCells_unofficial (List.contains_iff_mem.1 hwf)
  case h_4 => dsimp only [Instr.opcode]; rfl
  case h_11 => cases hg
  all_goals
    rename_i m
    cases m <;> simp only [Instr.wellFormed, AddrMode.isStoreForm, Bool.false_eq_true] at hwf <;>
      dsimp only [Instr.opcode, AddrMode.pick] <;> rfl

/-- The gate is open for an instruction whose opcode does not halt (R140, R280). -/
theorem behindGate_of_runs {i : Instr} {s : State} (k : State → Result) (hwf : i.wellFormed = true)
    (h : haltsOn i.opcode s.params = false) : behindGate i k s = k s := by
  unfold behindGate
  split
  · rename_i hg
    rw [haltsOn, gatedInstr_unofficial hg hwf] at h
    exact gated_open k (by simpa using h)
  · rfl

/-! ### The read class -/

/-- The operand that a read-class instruction loads, an unofficial NOP's among them (R150). -/
def readOperand : Instr → Option ReadOperand
  | .lda m | .ldx m | .ldy m | .adc m | .sbc m | .and m | .ora m | .eor m | .cmp m | .cpx m | .cpy m => some m
  | .bit m | .lax m | .nopUnofficial _ (.mem m) => some (.mem m)
  | .sbcEB b | .nopUnofficial _ (.imm b) => some (.imm b)
  | _ => none

/-- What a read-class instruction does with the byte it has loaded. -/
def readEffect (i : Instr) (v : Byte) (s : State) : State :=
  match i with
  | .lda _ => s.loadA v
  | .ldx _ => s.loadX v
  | .ldy _ => s.loadY v
  | .adc _ => s.addCore v
  | .sbc _ | .sbcEB _ => s.subCore v
  | .and _ => s.loadA (s.a &&& v)
  | .ora _ => s.loadA (s.a ||| v)
  | .eor _ => s.loadA (s.a ^^^ v)
  | .cmp _ => s.compareCore s.a v
  | .cpx _ => s.compareCore s.x v
  | .cpy _ => s.compareCore s.y v
  | .bit _ => s.bitTest v
  | .lax _ => { s with x := v }.loadA v
  | _ => s

theorem exec_read {i : Instr} {m : ReadOperand} (h : readOperand i = some m) (s : State) :
    exec i s = behindGate i (readOp i m (readEffect i)) s := by
  unfold readOperand at h
  split at h <;> cases h <;> rfl

/-! ### The write class -/

/-- The operand that a write-class instruction stores to (R150). -/
def writeOperand : Instr → Option AddrMode
  | .sta m | .stx m | .sty m | .sax m => some m
  | _ => none

/-- The byte that a write-class instruction stores. -/
def storedByte (i : Instr) (s : State) : Byte :=
  match i with
  | .stx _ => s.x
  | .sty _ => s.y
  | .sax _ => s.a &&& s.x
  | _ => s.a

theorem exec_write {i : Instr} {m : AddrMode} (h : writeOperand i = some m) (s : State) :
    exec i s = behindGate i (writeOp i m (storedByte i)) s := by
  unfold writeOperand at h
  split at h <;> cases h <;> rfl

theorem storedByte_start (i : Instr) (s : State) : storedByte i (s.start i) = storedByte i s := by
  unfold storedByte
  split <;> rfl

/-! ### The read-modify-write class -/

/-- The memory operand of a read-modify-write instruction (R150). -/
def modifyOperand : Instr → Option AddrMode
  | .inc m | .dec m | .asl (.mem m) | .lsr (.mem m) | .rol (.mem m) | .ror (.mem m) => some m
  | .dcp m | .isb m | .slo m | .rla m | .sre m | .rra m => some m
  | _ => none

/-- The byte that a read-modify-write instruction makes of the one it has read, and the state with its carry written. -/
def modified (i : Instr) (v : Byte) (s : State) : Byte × State :=
  match i with
  | .inc _ | .isb _ => (v + 1, s)
  | .dec _ | .dcp _ => (v - 1, s)
  | .asl _ | .slo _ => s.shiftCore .asl v
  | .lsr _ | .sre _ => s.shiftCore .lsr v
  | .rol _ | .rla _ => s.shiftCore .rol v
  | .ror _ | .rra _ => s.shiftCore .ror v
  | _ => (v, s)

/-- What a read-modify-write instruction does with that byte after it has been written back. -/
def afterModify (i : Instr) (r : Byte) (s : State) : State :=
  match i with
  | .dcp _ => s.compareCore s.a r
  | .isb _ => s.subCore r
  | .slo _ => s.loadA (s.a ||| r)
  | .rla _ => s.loadA (s.a &&& r)
  | .sre _ => s.loadA (s.a ^^^ r)
  | .rra _ => s.addCore r
  | _ => s.setZN r

theorem exec_modify {i : Instr} {m : AddrMode} (h : modifyOperand i = some m) (s : State) :
    exec i s = behindGate i (modifyOp i m (modified i) (afterModify i)) s := by
  unfold modifyOperand at h
  split at h <;> cases h <;> rfl

end Sys2Proof.Machine
end

-- ---- Proofs: Reads and their side effects ----
section
/-! SUPPORT. What a read changes, field by field, and that the instructions of the read class leave every memory (R61 to R67,
R150). -/

namespace Sys2Proof.Machine

/-! ### What a read changes -/

/-- `s` with what a read may change taken from `t`: the log, the draws, the controller's index, and four fields of the PPU. -/
def State.withReadEffects (s t : State) : State :=
  { s with
    faults := t.faults, draws := t.draws, index := t.index
    ppu := { s.ppu with v := t.ppu.v, readBuffer := t.ppu.readBuffer, vblank := t.ppu.vblank, w := t.ppu.w } }

theorem ppuPortRead_effects (p : Nat) (s : State) : (ppuPortRead p s).2 = s.withReadEffects (ppuPortRead p s).2 := by
  unfold ppuPortRead
  split
  · rfl
  · rfl
  · unfold dataRead
    dsimp only
    split <;> rfl
  · rfl

theorem illegalRead_effects (a : Word) (s : State) : (illegalRead a s).state = s.withReadEffects (illegalRead a s).state := by
  unfold illegalRead
  split <;> rfl

/-- A read changes nothing but what `withReadEffects` takes over (R67). -/
theorem cpuRead_effects (a : Word) (s : State) : (cpuRead a s).state = s.withReadEffects (cpuRead a s).state := by
  unfold cpuRead
  split
  · rfl
  split
  · exact ppuPortRead_effects _ s
  split
  · rfl
  split
  · rfl
  · exact illegalRead_effects a s

/-- A write-only port reads as a draw (R301). -/
theorem ppuPortRead_writeOnly {p : Nat} (h2 : p ≠ 2) (h4 : p ≠ 4) (h7 : p ≠ 7) (s : State) :
    ppuPortRead p s = (Config.ppuOpenBus s.draws, s.nextDraw) := by
  unfold ppuPortRead
  split
  · exact absurd rfl h2
  · exact absurd rfl h4
  · exact absurd rfl h7
  · rfl

/-! ### The read class leaves every memory -/

/-- Everything in the machine that holds bytes a program can store. -/
def State.memories (s : State) : Memory × Memory × Memory × Memory × Cart :=
  (s.ram, s.ntRam, s.palRam, s.ppu.oam, s.cart)

/-- The byte at a CPU address is a function of RAM and the cartridge. -/
theorem byteAt_congr {s t : State} (hram : t.ram = s.ram) (hcart : t.cart = s.cart) (a : Word) : byteAt a t = byteAt a s := by
  rw [byteAt, byteAt, hram, hcart]

theorem cpuRead_memories (a : Word) (s : State) : (cpuRead a s).state.memories = s.memories := by
  rw [cpuRead_effects]
  rfl

theorem operandRead_memories (m : ReadOperand) (s : State) : (operandRead m s).state.memories = s.memories := by
  cases m with
  | imm b => rfl
  | mem m => exact cpuRead_memories _ s

theorem readEffect_memories (i : Instr) (v : Byte) (s : State) : (readEffect i v s).memories = s.memories := by
  unfold readEffect
  split <;> rfl

section
variable {i : Instr} {s t : State}

theorem readOp_memories {m : ReadOperand} (h : readOp i m (readEffect i) s = .next t) : t.memories = s.memories := by
  have hread := operandRead_memories m s
  cases hop : operandRead m s with
  | ok v u =>
    rw [hop] at hread
    rw [readOp_next hop, Host.Outcome.next.injEq] at h
    rw [← h]
    exact (readEffect_memories i v _).trans hread
  | stop u =>
    rw [hop] at hread
    rw [readOp_stop hop, Host.Outcome.next.injEq] at h
    rw [← h]
    exact hread

/-- An instruction of the read class leaves the memories, also when its gate halts it (R150, R401). -/
theorem exec_read_memories {m : ReadOperand} (hi : readOperand i = some m) (h : exec i s = .next t) :
    t.memories = s.memories := by
  rw [exec_read hi] at h
  rcases behindGate_cases i (readOp i m (readEffect i)) s with hgate | hgate
  · exact readOp_memories (hgate ▸ h)
  · rw [hgate] at h
    cases h
    rfl

/-- An unofficial NOP without an operand leaves the memories (R281). -/
theorem exec_nopImplied_memories {op : Byte} (h : exec (.nopUnofficial op .implied) s = .next t) :
    t.memories = s.memories := by
  rcases behindGate_cases (.nopUnofficial op .implied) (register (.nopUnofficial op .implied) id) s with hgate | hgate <;>
    cases hgate.symm.trans h <;> rfl

end

/-- The instructions of the read class load an operand, except the unofficial NOPs without one. -/
theorem readClass_operand {i : Instr} {m : ReadOperand} {k : AddrMode} {op b : Byte} {n : NopOperand}
    (hi : i ∈ [Instr.lda m, .ldx m, .ldy m, .adc m, .sbc m, .and m, .ora m, .eor m, .cmp m, .cpx m, .cpy m, .bit k, .lax k,
      .sbcEB b, .nopUnofficial op n]) : (∃ o, readOperand i = some o) ∨ i = .nopUnofficial op .implied := by
  cases n <;> revert i <;> simp [readOperand]

/-- Settles O35: region by region, and for the read class through the memories that its one read leaves. -/
theorem readsAndTheirSideEffects : Obligations.ReadsAndTheirSideEffects := by
  intro a s
  refine ⟨fun h => cpuRead_ram h s, fun h => cpuRead_cart h s, fun hlo hhi => ⟨fun hport => ?_, fun h2 h4 h7 => ?_⟩,
    fun v h => cpuRead_of_byteAt h, fun v t h => ?_, fun i m k op b n t hi h => ?_⟩
  · rw [cpuRead_port hlo hhi, hport]
    rfl
  · rw [cpuRead_port hlo hhi, ppuPortRead_writeOnly h2 h4 h7]
    exact ⟨_, rfl⟩
  · have heffects := cpuRead_effects a s
    rwa [h] at heffects
  · have hmem : t.memories = s.memories := by
      rcases readClass_operand hi with ⟨o, ho⟩ | rfl
      · exact exec_read_memories ho h
      · exact exec_nopImplied_memories h
    simp only [State.memories, Prod.mk.injEq] at hmem
    obtain ⟨hram, hnt, hpal, hoam, hcart⟩ := hmem
    exact ⟨byteAt_congr hram hcart, hnt, hpal, hoam, hcart⟩

end Sys2Proof.Machine
end

-- ---- Proofs: Accesses that end an instruction ----
section
/-! SUPPORT. Under the halt policy an access to no region ends the instruction (R66, R159, R400). -/

namespace Sys2Proof.Machine

/-- A read changes neither the launch parameters nor the pc. -/
theorem cpuRead_ok_fixed {a : Word} {v : Byte} {s t : State} (h : cpuRead a s = .ok v t) :
    t.params = s.params ∧ t.pc = s.pc := by
  have heffects := cpuRead_effects a s
  rw [h, Bus.state_ok] at heffects
  rw [heffects]
  exact ⟨rfl, rfl⟩

/-- The first byte of an OAM-DMA transfer stands at the start of its page (R320). -/
theorem mkWord_zero (d : Byte) : mkWord 0 d = BitVec.ofNat 16 (256 * d.toNat) := by
  have := d.isLt
  apply BitVec.eq_of_toNat_eq
  rw [mkWord_toNat, BitVec.toNat_ofNat, Nat.mod_eq_of_lt (by omega)]
  exact Nat.zero_add _

section
variable {i : Instr} {m : AddrMode} {s : State} (hwf : i.wellFormed = true) (hruns : haltsOn i.opcode s.params = false)
  (hp : s.params.busFaultPolicy = .halt)
include hp

/-- A transfer from a page in no region ends at its first read (R320). -/
theorem oamDma_halt {d : Byte} (hlo : 0x40 ≤ d.toNat) (hhi : d.toNat ≤ 0x5F) :
    oamDma d s = .stop { s with faults := s.faults ++ [.busFault (BitVec.ofNat 16 (256 * d.toNat)) .read] } := by
  have hread : readable (BitVec.ofNat 16 (256 * d.toNat)) = false := by
    rw [readable_eq_false_iff, ← mkWord_zero, mkWord_toNat]
    refine ⟨by omega, by omega, ?_⟩
    revert d; decide +kernel
  have hfirst : cpuRead (mkWord (BitVec.ofNat 8 0) d) s =
      .stop { s with faults := s.faults ++ [.busFault (BitVec.ofNat 16 (256 * d.toNat)) .read] } := by
    rw [← cpuRead_halt hread hp, ← mkWord_zero]
    rfl
  rw [oamDma, oamDmaFrom, hfirst, Bus.bind_stop]

include hwf hruns

theorem exec_read_halt (hi : readOperand i = some (.mem m)) (hread : readable (addressed m s).addr = false) :
    exec i s = .next { s with
      pc := nextPc i s, cycles := 0, faults := s.faults ++ [.busFault (addressed m s).addr .read] } := by
  have hload : operandRead (.mem m) s = .stop { s with faults := s.faults ++ [.busFault (addressed m s).addr .read] } :=
    cpuRead_halt hread hp
  rw [exec_read hi, behindGate_of_runs _ hwf hruns, readOp_stop hload]

theorem exec_modify_halt (hi : modifyOperand i = some m) (hread : readable (addressed m s).addr = false) :
    exec i s = .next { s with
      pc := nextPc i s, cycles := 0, faults := s.faults ++ [.busFault (addressed m s).addr .read] } := by
  rw [exec_modify hi, behindGate_of_runs _ hwf hruns, modifyOp_stop (cpuRead_halt hread hp)]

omit hp in
/-- A write-class instruction whose write ends the step. -/
theorem exec_write_stop {t : State} (hi : writeOperand i = some m)
    (hstop : cpuWrite (addressed m s).addr (storedByte i s) s = .stop t) :
    exec i s = .next { t with pc := nextPc i s, cycles := 0 } := by
  rw [exec_write hi, behindGate_of_runs _ hwf hruns, writeOp_stop (storedByte_start i s) hstop]

end

/-! ### JMP through a pointer -/

section
variable {w : Word} {s : State}

/-- JMP through a pointer whose read ends the step (R249). -/
theorem exec_jmpInd_stop {t : State} (h : readWordBug w (s.start (.jmp (.ind w))) = .stop t) :
    exec (.jmp (.ind w)) s = .next (t.setCycles 0) := by
  have hjump : exec (.jmp (.ind w)) s = stacked (.jmp (.ind w))
      (fun s1 => (readWordBug w s1).bind fun target s2 => .ok () { s2 with pc := target }) s := rfl
  rw [hjump, stacked, h]
  rfl

theorem exec_jmpInd_first (hp : s.params.busFaultPolicy = .halt) (hread : readable w = false) :
    exec (.jmp (.ind w)) s = .next { s with
      pc := nextPc (.jmp (.ind w)) s, cycles := 0, faults := s.faults ++ [.busFault w .read] } := by
  have hstop : readWordBug w (s.start (.jmp (.ind w))) = .stop { s with
      pc := nextPc (.jmp (.ind w)) s, faults := s.faults ++ [.busFault w .read] } := by
    rw [readWordBug, cpuRead_start, cpuRead_halt hread hp]
    rfl
  rw [exec_jmpInd_stop hstop]
  rfl

theorem exec_jmpInd_second {lo : Byte} {t : State} (hp : s.params.busFaultPolicy = .halt) (hlo : cpuRead w s = .ok lo t)
    (hread : readable (samePageNext w) = false) : exec (.jmp (.ind w)) s = .next { t with
      pc := nextPc (.jmp (.ind w)) s, cycles := 0, faults := t.faults ++ [.busFault (samePageNext w) .read] } := by
  obtain ⟨hparams, -⟩ := cpuRead_ok_fixed hlo
  have hstop : readWordBug w (s.start (.jmp (.ind w))) = .stop { t with
      pc := nextPc (.jmp (.ind w)) s, faults := t.faults ++ [.busFault (samePageNext w) .read] } := by
    rw [readWordBug, cpuRead_start, hlo, Bus.mapState_ok, Bus.bind_ok, cpuRead_pc, cpuRead_halt hread (hparams ▸ hp)]
    rfl
  rw [exec_jmpInd_stop hstop]
  rfl

end

/-- The instructions that read a memory operand, and those that write it back. -/
theorem memoryRead_operand {m : AddrMode} {i : Instr}
    (hi : i ∈ [Instr.lda (.mem m), .ldx (.mem m), .ldy (.mem m), .adc (.mem m), .sbc (.mem m), .and (.mem m), .ora (.mem m),
      .eor (.mem m), .cmp (.mem m), .cpx (.mem m), .cpy (.mem m), .bit m, .inc m, .dec m, .asl (.mem m), .lsr (.mem m),
      .rol (.mem m), .ror (.mem m), .lax m, .dcp m, .isb m, .slo m, .rla m, .sre m, .rra m] ∨
      ∃ op, i = .nopUnofficial op (.mem m)) : readOperand i = some (.mem m) ∨ modifyOperand i = some m := by
  rcases hi with hi | ⟨op, rfl⟩
  · revert i
    simp [readOperand, modifyOperand]
  · exact .inl rfl

/-- The stores and the byte each stores. -/
theorem store_operand {m : AddrMode} {s : State} {i : Instr} {d : Byte}
    (hi : (i, d) ∈ [(Instr.sta m, s.a), (.stx m, s.x), (.sty m, s.y), (.sax m, s.a &&& s.x)]) :
    writeOperand i = some m ∧ storedByte i s = d := by
  simp only [List.mem_cons, List.not_mem_nil, or_false, Prod.mk.injEq] at hi
  rcases hi with ⟨rfl, rfl⟩ | ⟨rfl, rfl⟩ | ⟨rfl, rfl⟩ | ⟨rfl, rfl⟩ <;> exact ⟨rfl, rfl⟩

/-- Settles O10: each access is the instruction's read, its write, the first read of its transfer or a read of its pointer. -/
theorem haltPolicyEndsTheInstructionAtTheAccess : Obligations.HaltPolicyEndsTheInstructionAtTheAccess := by
  intro m i s hwf hruns hp
  refine ⟨fun hi hread => ?_, fun d hi => ?_, fun w second hi hsecond => ?_⟩
  · rcases memoryRead_operand hi with hop | hop
    · exact exec_read_halt hwf hruns hp hop hread
    · exact exec_modify_halt hwf hruns hp hop hread
  · obtain ⟨hop, hd⟩ := store_operand hi
    refine ⟨fun hwrite => ?_, fun hdma hlo hhi => ?_⟩
    · rw [exec_write_stop hwf hruns hop (cpuWrite_halt hwrite hp _)]
    · have hstop : cpuWrite (addressed m s).addr (storedByte i s) s = oamDma d s := by
        rw [hdma, hd]
        rfl
      rw [exec_write_stop hwf hruns hop (hstop.trans (oamDma_halt hp hlo hhi))]
  · subst hi hsecond
    rw [← samePageNext_eq]
    exact ⟨exec_jmpInd_first hp, fun lo t => exec_jmpInd_second hp⟩

end Sys2Proof.Machine
end

-- ---- Proofs: The memory frame of stores and read-modify-writes ----
section
/-! SUPPORT. What a write leaves at every CPU address (R61, R87), and so the memory frames of the stores and of the
read-modify-write instructions. -/

namespace Sys2Proof.Machine

/-! ### Writes that store no byte -/

/-- What the bytes at CPU addresses are read from (`byteAt_congr`). -/
def State.cpuBytes (s : State) : Memory × Cart := (s.ram, s.cart)

theorem byteAt_of_cpuBytes {s t : State} (h : t.cpuBytes = s.cpuBytes) (a : Word) : byteAt a t = byteAt a s := by
  simp only [State.cpuBytes, Prod.mk.injEq] at h
  exact byteAt_congr h.1 h.2 a

theorem cpuBytes_bind {α β : Type} {c : Memory × Cart} {r : Bus α} {k : α → State → Bus β} (hr : r.state.cpuBytes = c)
    (hk : ∀ v u, u.cpuBytes = c → (k v u).state.cpuBytes = c) : (r.bind k).state.cpuBytes = c := by
  cases r with
  | ok v u => exact hk v u hr
  | stop u => exact hr

theorem cpuBytes_complete {i : Instr} {r : Bus Nat} {t : State} (h : complete i r = .next t) :
    t.cpuBytes = r.state.cpuBytes := by
  cases r <;> cases h <;> rfl

theorem cpuRead_cpuBytes (a : Word) (s : State) : (cpuRead a s).state.cpuBytes = s.cpuBytes := by
  rw [cpuRead_effects]
  rfl

theorem ppuWrite_cpuBytes (a : Word) (d : Byte) (s : State) : (ppuWrite a d s).cpuBytes = s.cpuBytes := by
  unfold ppuWrite
  dsimp only
  split
  · rfl
  split <;> rfl

theorem ppuPortWrite_cpuBytes (p : Nat) (d : Byte) (s : State) : (ppuPortWrite p d s).cpuBytes = s.cpuBytes := by
  unfold ppuPortWrite
  split
  case h_8 => exact ppuWrite_cpuBytes s.ppu.busAddr d s
  all_goals rfl

theorem oamDmaFrom_cpuBytes (d : Byte) (n i : Nat) (s : State) : (oamDmaFrom d n i s).state.cpuBytes = s.cpuBytes := by
  induction n generalizing i s with
  | zero => rfl
  | succ n ih => exact cpuBytes_bind (cpuRead_cpuBytes _ s) fun b u hu => (ih (i + 1) (u.oamPut i b)).trans hu

theorem illegalWrite_cpuBytes (a : Word) (s : State) : (illegalWrite a s).state.cpuBytes = s.cpuBytes := by
  unfold illegalWrite
  split <;> rfl

/-- The addresses at which a write stores a byte (R61, R86, R90). -/
theorem storesByte_iff (a : Word) : storesByte a = true ↔ a.toNat ≤ 0x1FFF ∨ 0x6000 ≤ a.toNat ∧ a.toNat ≤ 0x7FFF := by
  simp [storesByte]

/-- A write to a device, to no region, or to the ROM of a fixed-bank cartridge changes no byte at a CPU address (R87). -/
theorem cpuWrite_cpuBytes {a : Word} {s : State} (hstore : storesByte a = false)
    (hrom : s.cart.kind = .fixed ∨ a.toNat ≤ 0x7FFF) (d : Byte) : (cpuWrite a d s).state.cpuBytes = s.cpuBytes := by
  have hregion := (storesByte_iff a).not.1 (ne_true_of_eq_false hstore)
  unfold cpuWrite
  split
  · exact absurd (.inl ‹_›) hregion
  split
  · exact ppuPortWrite_cpuBytes _ d s
  split
  · exact oamDmaFrom_cpuBytes d 256 0 s
  split
  · rfl
  split
  · have hfixed : s.cart.kind = .fixed := hrom.resolve_right (by omega)
    rw [cartWrite_fixed hfixed (by omega)]
    rfl
  · exact illegalWrite_cpuBytes a s

/-! ### Writes that store a byte -/

/-- Where a write stores a byte, it places it (R61, R87, R90). -/
theorem cpuWrite_stores {a : Word} (h : storesByte a = true) (d : Byte) (s : State) :
    cpuWrite a d s = .ok () (placeByte a d s) := by
  unfold placeByte
  rcases (storesByte_iff a).1 h with hram | ⟨hlo, hhi⟩
  · rw [cpuWrite_ram hram, if_pos hram]
  · rw [cpuWrite_cart hlo, cartWrite_saveRam hhi, if_neg (by omega), if_pos hhi]

/-- A byte placed in RAM or save RAM changes those two memories alone. -/
theorem placeByte_eq {a : Word} (h : storesByte a = true) (d : Byte) (s : State) : ∃ ram prgRam,
    placeByte a d s = { s with ram := ram, cart := { s.cart with prgRam := prgRam } } := by
  unfold placeByte
  rcases (storesByte_iff a).1 h with hram | ⟨hlo, hhi⟩
  · rw [if_pos hram]
    exact ⟨_, s.cart.prgRam, rfl⟩
  · rw [if_neg (by omega), if_pos hhi]
    exact ⟨s.ram, _, rfl⟩

theorem sameCell_iff (a b : Word) :
    sameCell a b = true ↔ a = b ∨ a.toNat ≤ 0x1FFF ∧ b.toNat ≤ 0x1FFF ∧ a.toNat % 0x800 = b.toNat % 0x800 := by
  simp [sameCell, and_assoc]

theorem byteAt_ram {a : Word} (h : a.toNat ≤ 0x1FFF) (s : State) : byteAt a s = some (s.ram.read (a.toNat % 0x800)) :=
  if_pos h

theorem byteAt_cart {a : Word} (h : 0x6000 ≤ a.toNat) (s : State) : byteAt a s = some (s.cart.cpuRead a) := by
  rw [byteAt, if_neg (by omega), if_pos h]

section
variable {a b : Word} {s : State} (hstore : storesByte a = true)
include hstore

/-- A byte placed in RAM or save RAM reads back at its address and at its mirrors (R61). -/
theorem byteAt_placeByte_same (hram : s.ram.wf 0x800 = true) (hsave : s.cart.prgRam.wf 0x2000 = true) (d : Byte)
    (h : sameCell a b = true) : byteAt b (placeByte a d s) = some d := by
  have hcell := (sameCell_iff a b).1 h
  unfold placeByte
  rcases (storesByte_iff a).1 hstore with hlow | ⟨hlo, hhi⟩
  · obtain ⟨hb, hmirror⟩ : b.toNat ≤ 0x1FFF ∧ a.toNat % 0x800 = b.toNat % 0x800 := by
      rcases hcell with rfl | ⟨-, hb, hmirror⟩
      · exact ⟨hlow, rfl⟩
      · exact ⟨hb, hmirror⟩
    rw [if_pos hlow, byteAt_ram hb, ← hmirror]
    exact congrArg some (Memory.read_write_same hram)
  · obtain rfl : a = b := hcell.resolve_right (by omega)
    rw [if_neg (by omega), if_pos hhi, byteAt_cart hlo, cartRead_saveRam hhi]
    exact congrArg some (Memory.read_write_same hsave)

/-- A byte placed in RAM or save RAM leaves every other byte. -/
theorem byteAt_placeByte_other (d : Byte) (h : sameCell a b = false) : byteAt b (placeByte a d s) = byteAt b s := by
  have hcell := (sameCell_iff a b).not.1 (ne_true_of_eq_false h)
  push Not at hcell
  obtain ⟨hne, hmirror⟩ := hcell
  unfold placeByte
  rcases (storesByte_iff a).1 hstore with hlow | ⟨hlo, hhi⟩
  · rw [if_pos hlow]
    by_cases hb : b.toNat ≤ 0x1FFF
    · rw [byteAt_ram hb, byteAt_ram hb]
      exact congrArg some (Memory.read_write_other (hmirror hlow hb))
    · simp only [byteAt, if_neg hb]
  · rw [if_neg (by omega), if_pos hhi]
    by_cases hb : 0x6000 ≤ b.toNat ∧ b.toNat ≤ 0x7FFF
    · obtain ⟨hblo, hbhi⟩ := hb
      have hplace : a.toNat - 0x6000 ≠ b.toNat - 0x6000 := fun heq => hne (BitVec.eq_of_toNat_eq (by omega))
      rw [byteAt_cart hblo, byteAt_cart hblo, cartRead_saveRam hbhi, cartRead_saveRam hbhi]
      exact congrArg some (Memory.read_write_other hplace)
    · unfold byteAt
      split
      · rfl
      split
      · rw [cartRead_rom (by omega), cartRead_rom (by omega)]
        rfl
      · rfl

end

/-! ### The stores -/

/-- Settles O16: the store is one `cpuWrite`, which places the byte or changes no byte at all. -/
theorem storesChangeOneByteOfMemory : Obligations.StoresChangeOneByteOfMemory := by
  intro m s t i d hs hi hruns hwf h
  obtain ⟨hram, -, -, -, hsave, -⟩ := (memoriesWf_iff s).1 hs
  obtain ⟨hop, rfl⟩ := store_operand hi
  rw [exec_write hop, behindGate_of_runs _ hwf hruns] at h
  refine ⟨fun hstore => ?_, fun hstore hrom => ?_⟩
  · rw [writeOp_next (storedByte_start i s) (cpuWrite_stores hstore _ s), Host.Outcome.next.injEq] at h
    have hbytes : t.cpuBytes = (placeByte (addressed m s).addr (storedByte i s) s).cpuBytes := by
      rw [← h]
      rfl
    refine ⟨fun b hb => (byteAt_of_cpuBytes hbytes b).trans (byteAt_placeByte_same hstore hram hsave _ hb),
      fun b hb => (byteAt_of_cpuBytes hbytes b).trans (byteAt_placeByte_other hstore _ hb), ?_⟩
    obtain ⟨ram, prgRam, hplace⟩ := placeByte_eq hstore (storedByte i s) s
    rw [← h, hplace]
    rfl
  · rw [writeOp, effAddr_eq, Bus.bind_ok, addressed_start] at h
    exact byteAt_of_cpuBytes ((cpuBytes_complete h).trans
      (cpuBytes_bind (cpuWrite_cpuBytes (s := s.start i) hstore hrom _) fun _ _ hu => hu))

/-! ### The read-modify-writes -/

/-- The byte that a read-modify-write makes does not depend on the pc. -/
theorem modified_start (i : Instr) (v : Byte) (s : State) : (modified i v (s.start i)).1 = (modified i v s).1 := by
  unfold modified
  split <;> rfl

/-- Before the write only P can have changed. -/
theorem modified_eq (i : Instr) (v : Byte) (s : State) : ∃ p, (modified i v s).2 = { s with p := p } :=
  ⟨(modified i v s).2.p, by unfold modified; split <;> rfl⟩

/-- After the write only A and P change. -/
theorem afterModify_eq (i : Instr) (r : Byte) (s : State) : ∃ a p, afterModify i r s = { s with a := a, p := p } :=
  ⟨(afterModify i r s).a, (afterModify i r s).p, by unfold afterModify; split <;> rfl⟩

/-- INC, DEC, the shifts and DCP leave A (R209, R210, R230 to R233, R285). -/
theorem afterModify_a {m : AddrMode} {i : Instr}
    (hi : i ∈ [Instr.inc m, .dec m, .asl (.mem m), .lsr (.mem m), .rol (.mem m), .ror (.mem m), .dcp m])
    (r : Byte) (s : State) : (afterModify i r s).a = s.a := by
  simp only [List.mem_cons, List.not_mem_nil, or_false] at hi
  rcases hi with rfl | rfl | rfl | rfl | rfl | rfl | rfl <;> rfl

/-- The byte that each instruction makes of the one it has read, in integers. -/
theorem modified_byte (m : AddrMode) (i : Instr) (v : Byte) (s : State) :
    (i ∈ [Instr.inc m, .isb m] → (modified i v s).1.toNat = (v.toNat + 1) % 256) ∧
    (i ∈ [Instr.dec m, .dcp m] → (modified i v s).1.toNat = (v.toNat + 255) % 256) ∧
    (i ∈ [Instr.asl (.mem m), .slo m] → ∃ out, shiftsTo .asl v (getFlag .c s.p) (modified i v s).1 out) ∧
    (i ∈ [Instr.lsr (.mem m), .sre m] → ∃ out, shiftsTo .lsr v (getFlag .c s.p) (modified i v s).1 out) ∧
    (i ∈ [Instr.rol (.mem m), .rla m] → ∃ out, shiftsTo .rol v (getFlag .c s.p) (modified i v s).1 out) ∧
    (i ∈ [Instr.ror (.mem m), .rra m] → ∃ out, shiftsTo .ror v (getFlag .c s.p) (modified i v s).1 out) := by
  have hshift (k : ShiftKind) : ∃ out, shiftsTo k v (getFlag .c s.p) (s.shiftCore k v).1 out :=
    ⟨_, shiftsTo_shiftCore k v (getFlag .c s.p)⟩
  simp only [List.mem_cons, List.not_mem_nil, or_false]
  refine ⟨?_, ?_, ?_, ?_, ?_, ?_⟩
  · rintro (rfl | rfl) <;> exact BitVec.toNat_add v 1
  · rintro (rfl | rfl) <;> simp only [modified] <;> bv_omega
  · rintro (rfl | rfl) <;> exact hshift .asl
  · rintro (rfl | rfl) <;> exact hshift .lsr
  · rintro (rfl | rfl) <;> exact hshift .rol
  · rintro (rfl | rfl) <;> exact hshift .ror

/-- The twelve read-modify-write instructions. -/
theorem modifyClass_operand {m : AddrMode} {i : Instr}
    (hi : i ∈ [Instr.inc m, .dec m, .asl (.mem m), .lsr (.mem m), .rol (.mem m), .ror (.mem m), .dcp m, .isb m, .slo m, .rla m,
      .sre m, .rra m]) : modifyOperand i = some m := by
  revert i
  simp [modifyOperand]

section
variable {i : Instr} {m : AddrMode} {s t : State} (hop : modifyOperand i = some m) (hwf : i.wellFormed = true)
  (hruns : haltsOn i.opcode s.params = false) (h : exec i s = .next t)
include hop hwf hruns h

/-- On a byte of RAM or save RAM a read-modify-write places the byte it makes, and then changes A, P and the cycle count. -/
theorem exec_modify_stores {v : Byte} (hstore : storesByte (addressed m s).addr = true)
    (hv : byteAt (addressed m s).addr s = some v) : ∃ p,
    t = (afterModify i (modified i v s).1 { placeByte (addressed m s).addr (modified i v s).1 s with
      p := p, pc := nextPc i s }).setCycles (rowOf i.opcode).cycles := by
  obtain ⟨p, hp⟩ : ∃ p, (modified i v { s with pc := nextPc i s }).2 = { s with p := p, pc := nextPc i s } :=
    modified_eq i v (s.start i)
  have hbyte : (modified i v { s with pc := nextPc i s }).1 = (modified i v s).1 := modified_start i v s
  have hplace : placeByte (addressed m s).addr (modified i v s).1 { s with p := p, pc := nextPc i s } =
      { placeByte (addressed m s).addr (modified i v s).1 s with p := p, pc := nextPc i s } := by
    unfold placeByte
    split
    · rfl
    split <;> rfl
  rw [exec_modify hop, behindGate_of_runs _ hwf hruns, modifyOp_read (cpuRead_of_byteAt hv), hp, hbyte,
    cpuWrite_stores hstore, Bus.bind_ok, hplace] at h
  cases h
  exact ⟨p, rfl⟩

/-- A read-modify-write on a device, on no region or on the ROM of a fixed-bank cartridge changes no byte at a CPU address. -/
theorem exec_modify_cpuBytes (hstore : storesByte (addressed m s).addr = false)
    (hrom : s.cart.kind = .fixed ∨ (addressed m s).addr.toNat ≤ 0x7FFF) : t.cpuBytes = s.cpuBytes := by
  have hwrite (v : Byte) (u : State) (hu : u.cpuBytes = s.cpuBytes) :
      (cpuWrite (addressed m s).addr (modified i v u).1 (modified i v u).2).state.cpuBytes = s.cpuBytes := by
    have hcart : u.cart = s.cart := congrArg Prod.snd hu
    obtain ⟨p, hp⟩ := modified_eq i v u
    rw [hp, cpuWrite_cpuBytes hstore (by rwa [hcart])]
    exact hu
  rw [exec_modify hop, behindGate_of_runs _ hwf hruns, modifyOp, effAddr_eq, Bus.bind_ok, addressed_start] at h
  refine (cpuBytes_complete h).trans (cpuBytes_bind (cpuRead_cpuBytes _ _) fun v u hu => cpuBytes_bind (hwrite v u hu)
    fun _ w hw => ?_)
  obtain ⟨a, p, hafter⟩ := afterModify_eq i (modified i v u).1 w
  rw [Bus.state_ok, hafter]
  exact hw

end

/-- Settles O25: one read and one `cpuWrite`, which places the byte that `modified` makes or changes no byte at all. -/
theorem modifiesChangeOneByteOfMemory : Obligations.ModifiesChangeOneByteOfMemory := by
  intro m s t i v hs hi hruns hwf h
  obtain ⟨hram, -, -, -, hsave, -⟩ := (memoriesWf_iff s).1 hs
  have hop := modifyClass_operand hi
  refine ⟨fun hstore hv => ?_, fun hstore hrom => byteAt_of_cpuBytes (exec_modify_cpuBytes hop hwf hruns h hstore hrom)⟩
  obtain ⟨p, ht⟩ := exec_modify_stores hop hwf hruns h hstore hv
  obtain ⟨ram, prgRam, hplace⟩ := placeByte_eq hstore (modified i v s).1 s
  obtain ⟨a, p', hafter⟩ := afterModify_eq i (modified i v s).1
    { placeByte (addressed m s).addr (modified i v s).1 s with p := p, pc := nextPc i s }
  have hbytes : t.cpuBytes = (placeByte (addressed m s).addr (modified i v s).1 s).cpuBytes := by
    rw [ht, hafter]
    rfl
  refine ⟨⟨(modified i v s).1,
      fun b hb => (byteAt_of_cpuBytes hbytes b).trans (byteAt_placeByte_same hstore hram hsave _ hb), modified_byte m i v s⟩,
    fun b hb => (byteAt_of_cpuBytes hbytes b).trans (byteAt_placeByte_other hstore _ hb), ?_, fun hkeeps => ?_⟩
  · rw [ht, hafter, hplace]
    rfl
  · rw [ht, State.setCycles_a, afterModify_a hkeeps, hplace]

end Sys2Proof.Machine
end

-- ---- Proofs: The fetch ----
section
/-! SUPPORT. The fetch of a CPU tick, byte by byte (R113, R140, R150), and where it faults (R400). -/

namespace Sys2Proof.Machine

/-! ### The opcodes that halt -/

/-- The instructions that always halt (R291). -/
def haltingInstr : Instr → Bool
  | .kil _ | .anc _ | .alr | .arr | .xaa | .ahx _ | .tas | .shy | .shx | .lxa | .las | .axs => true
  | _ => false

theorem exec_haltingInstr {i : Instr} (h : haltingInstr i = true) (s : State) : exec i s = haltTick i.opcode s := by
  unfold haltingInstr at h
  split at h
  case h_13 => cases h
  all_goals rfl

theorem exec_gatedInstr {i : Instr} (h : gatedInstr i = true) (s : State) : ∃ k, exec i s = gated i k s := by
  unfold gatedInstr at h
  split at h
  case h_11 => cases h
  all_goals exact ⟨_, rfl⟩

/-- A halting opcode byte is decoded to an instruction that always halts (R124, R291). -/
theorem decodeOp_halting : ∀ op : Byte, (rowOf op).cls = .halting →
    haltingInstr (decodeOp op 0 0) = true ∧ (decodeOp op 0 0).opcode = op := by
  decide +kernel

/-- An opcode byte of class unofficial is decoded to an instruction behind the gate (R124, R280). -/
theorem decodeOp_unofficial : ∀ op : Byte, (rowOf op).cls = .unofficial →
    gatedInstr (decodeOp op 0 0) = true ∧ (decodeOp op 0 0).opcode = op := by
  decide +kernel

/-- The instruction of an opcode that halts does so without its operand bytes (R291, R401). -/
theorem exec_of_haltsOn {op : Byte} {s : State} (h : haltsOn op s.params = true) :
    exec (decodeOp op 0 0) s = haltTick op s := by
  unfold haltsOn at h
  split at h
  · cases h
  · rename_i hcls
    obtain ⟨hgated, hop⟩ := decodeOp_unofficial op hcls
    obtain ⟨k, hk⟩ := exec_gatedInstr hgated s
    rw [hk, gated_closed k (by rw [hop]; simpa using h), hop]
  · rename_i hcls
    obtain ⟨hhalting, hop⟩ := decodeOp_halting op hcls
    rw [exec_haltingInstr hhalting, hop]

/-! ### The operand bytes -/

theorem operandBytes_le_two : ∀ op : Byte, operandBytes op ≤ 2 := by
  decide +kernel

/-- An instruction whose operand bytes are read is as long as they and the opcode byte are (R121, R126). -/
theorem size_of_operandBytes : ∀ op : Byte, operandBytes op ≠ 0 → (rowOf op).size = 1 + operandBytes op := by
  decide +kernel

theorem decode_noOperand {op : Byte} (h : operandBytes op = 0) : decode [op] = .ok (decodeOp op 0 0) := by
  simp only [decode, h]

theorem decode_oneOperand {op : Byte} (h : operandBytes op = 1) (b1 : Byte) : decode [op, b1] = .ok (decodeOp op b1 0) := by
  simp only [decode, h]

theorem decode_twoOperands {op : Byte} (h : operandBytes op = 2) (b1 b2 : Byte) :
    decode [op, b1, b2] = .ok (decodeOp op b1 b2) := by
  simp only [decode, h]

section
variable {op : Byte} {s : State}

theorem fetchOperands_halts (h : haltsOn op s.params = true) : fetchOperands op s = .ok (decodeOp op 0 0) s := by
  simp only [fetchOperands, operandsRead, h, if_true]

variable (hruns : haltsOn op s.params = false)
include hruns

theorem operandsRead_of_runs : operandsRead op s.params = operandBytes op := if_neg (ne_true_of_eq_false hruns)

theorem fetchOperands_none (h : operandBytes op = 0) : fetchOperands op s = .ok (decodeOp op 0 0) s := by
  simp only [fetchOperands, operandsRead_of_runs hruns, h]

theorem fetchOperands_one (h : operandBytes op = 1) :
    fetchOperands op s = (cpuRead (s.pc + 1) s).bind fun b1 s1 => .ok (decodeOp op b1 0) s1 := by
  simp only [fetchOperands, operandsRead_of_runs hruns, h]

theorem fetchOperands_two (h : operandBytes op = 2) : fetchOperands op s = (cpuRead (s.pc + 1) s).bind fun b1 s1 =>
    (cpuRead (s.pc + 2) s1).bind fun b2 s2 => .ok (decodeOp op b1 b2) s2 := by
  simp only [fetchOperands, operandsRead_of_runs hruns, h]

/-- A first operand byte that is not read ends the fetch, whatever the format (R400). -/
theorem fetchOperands_stop {t : State} (h : operandBytes op ≠ 0) (hstop : cpuRead (s.pc + 1) s = .stop t) :
    fetchOperands op s = .stop t := by
  have hle := operandBytes_le_two op
  rcases (by omega : operandBytes op = 1 ∨ operandBytes op = 2) with hone | htwo
  · rw [fetchOperands_one hruns hone, hstop, Bus.bind_stop]
  · rw [fetchOperands_two hruns htwo, hstop, Bus.bind_stop]

end

/-! ### The tick -/

section
variable {s s1 : State} {op : Byte} (hint : interruptToService s = none)
include hint

theorem cpuTick_fetched {i : Instr} {t : State} (h : fetch s = .ok i t) : cpuTick s = exec i t := by
  simp only [cpuTick, hint, h]

theorem cpuTick_fetchStop {t : State} (h : fetch s = .stop t) : cpuTick s = .next (t.setCycles 0) := by
  simp only [cpuTick, hint, h]

/-- An opcode fetch that faults leaves the pc at the opcode (R400). -/
theorem cpuTick_opcodeFault (hp : s.params.busFaultPolicy = .halt) (hread : readable s.pc = false) :
    cpuTick s = .next { s with faults := s.faults ++ [.busFault s.pc .read], cycles := 0 } := by
  have hstop : fetch s = .stop { s with faults := s.faults ++ [.busFault s.pc .read] } := by
    rw [fetch, cpuRead_halt hread hp, Bus.bind_stop]
  rw [cpuTick_fetchStop hint hstop]
  rfl

variable (hop : cpuRead s.pc s = .ok op s1)
include hop

/-- With the opcode byte and its operand bytes read, the tick is the instruction they make (R140). -/
theorem cpuTick_operands {i : Instr} {t : State} (h : fetchOperands op s1 = .ok i t) : cpuTick s = exec i t := by
  refine cpuTick_fetched hint ?_
  rw [fetch, hop, Bus.bind_ok, h, stopAtNext]

/-- An operand byte that faults leaves the pc past the instruction (R400; log entry 11). -/
theorem cpuTick_operandFault {t : State} (h0 : operandBytes op ≠ 0) (h : fetchOperands op s1 = .stop t) :
    cpuTick s = .next { t with pc := s.pc + BitVec.ofNat 16 (1 + operandBytes op), cycles := 0 } := by
  have hstop : fetch s = .stop { t with pc := s.pc + BitVec.ofNat 16 (1 + operandBytes op) } := by
    rw [fetch, hop, Bus.bind_ok, h, stopAtNext, size_of_operandBytes op h0]
  rw [cpuTick_fetchStop hint hstop]
  rfl

end

/-- Settles O5: the fetch reads the opcode byte, `fetchOperands` the others, and a fault ends it where it stands. -/
theorem fetchReadsTheBytesInOrder : Obligations.FetchReadsTheBytesInOrder := by
  intro s hint
  refine ⟨cpuTick_opcodeFault hint, fun s1 op hop => ?_⟩
  obtain ⟨hparams, hpc⟩ := cpuRead_ok_fixed hop
  rw [← hparams, ← hpc]
  refine ⟨fun hhalts => ?_, fun hruns => ⟨fun hnone => ?_, fun b1 s2 hone hb1 => ?_, fun b1 b2 s2 s3 htwo hb1 hb2 => ?_,
    fun hp => ⟨fun hsome hread => ?_, fun b1 s2 htwo hb1 hread => ?_⟩⟩⟩
  · rw [cpuTick_operands hint hop (fetchOperands_halts hhalts), exec_of_haltsOn hhalts]
    rfl
  · exact ⟨_, decode_noOperand hnone, cpuTick_operands hint hop (fetchOperands_none hruns hnone)⟩
  · refine ⟨_, decode_oneOperand hone b1, cpuTick_operands hint hop ?_⟩
    rw [fetchOperands_one hruns hone, hb1, Bus.bind_ok]
  · refine ⟨_, decode_twoOperands htwo b1 b2, cpuTick_operands hint hop ?_⟩
    rw [fetchOperands_two hruns htwo, hb1, Bus.bind_ok, hb2, Bus.bind_ok]
  · rw [cpuTick_operandFault hint hop hsome (fetchOperands_stop hruns hsome (cpuRead_halt hread hp)), hpc]
  · obtain ⟨hparams', -⟩ := cpuRead_ok_fixed hb1
    have hstop : fetchOperands op s1 = .stop { s2 with faults := s2.faults ++ [.busFault (s1.pc + 2) .read] } := by
      rw [fetchOperands_two hruns htwo, hb1, Bus.bind_ok, cpuRead_halt hread (hparams' ▸ hp), Bus.bind_stop]
    rw [cpuTick_operandFault hint hop (by omega) hstop, htwo, hpc]
    rfl

end Sys2Proof.Machine
end

-- ---- Proofs: Decoding and encoding: the opcode map, cell by cell ----
section
/-! SUPPORT. The decoder and the encoder on every opcode byte and every well-formed instruction (R120 to R130). -/

namespace Sys2Proof.Laws.RowMatches

/-- Every well-formed instruction stands in its row. -/
theorem of_instr : ∀ i : Instr, Statement i
  | .lda m => lda m | .ldx m => ldx m | .ldy m => ldy m | .sta m => sta m | .stx m => stx m | .sty m => sty m
  | .tax => tax | .tay => tay | .txa => txa | .tya => tya | .tsx => tsx | .txs => txs
  | .adc m => adc m | .sbc m => sbc m | .and m => and m | .ora m => ora m | .eor m => eor m
  | .cmp m => cmp m | .cpx m => cpx m | .cpy m => cpy m | .bit m => bit m | .inc m => inc m | .dec m => dec m
  | .inx => inx | .iny => iny | .dex => dex | .dey => dey
  | .asl m => asl m | .lsr m => lsr m | .rol m => rol m | .ror m => ror m
  | .bpl d => bpl d | .bmi d => bmi d | .bvc d => bvc d | .bvs d => bvs d
  | .bcc d => bcc d | .bcs d => bcs d | .bne d => bne d | .beq d => beq d
  | .jmp t => jmp t | .jsr w => jsr w | .rts => rts | .rti => rti | .brk => brk
  | .pha => pha | .php => php | .pla => pla | .plp => plp
  | .clc => clc | .sec => sec | .cli => cli | .sei => sei | .cld => cld | .sed => sed | .clv => clv
  | .nop => nop | .nopUnofficial op m => nopUnofficial op m
  | .lax m => lax m | .sax m => sax m | .sbcEB b => sbcEB b | .dcp m => dcp m | .isb m => isb m | .slo m => slo m
  | .rla m => rla m | .sre m => sre m | .rra m => rra m
  | .kil op => kil op | .anc op => anc op | .alr => alr | .arr => arr | .xaa => xaa | .ahx op => ahx op
  | .tas => tas | .shy => shy | .shx => shx | .lxa => lxa | .las => las | .axs => axs

end Sys2Proof.Laws.RowMatches

namespace Sys2Proof

/-! ### From the opcode byte to the instruction -/

/-- What is said of the sixteen cells of each block holds of the instruction every opcode byte selects (R123, R129). -/
theorem decodeOp_of_cells {α : Type} {f : Instr → α} {g : Byte → α} {b1 b2 : Byte}
    (h : ∀ hi < 16, (cellBlock hi b1 b2).map f = (List.range 16).map fun lo => g (BitVec.ofNat 8 (16 * hi + lo)))
    (op : Byte) : f (decodeOp op b1 b2) = g op := by
  have hcells := h (op.toNat / 16) (by omega)
  have hlo : op.toNat % 16 < 16 := Nat.mod_lt _ (by decide)
  have hlen : op.toNat % 16 < (cellBlock (op.toNat / 16) b1 b2).length := by
    simpa using hlo.trans_eq (congrArg List.length hcells).symm
  have hcell := congrArg (·[op.toNat % 16]?) hcells
  simpa [decodeOp, List.getElem?_eq_getElem hlen, hlo, Nat.div_add_mod] using hcell

theorem decodeOp_opcode (op b1 b2 : Byte) : (decodeOp op b1 b2).opcode = op :=
  decodeOp_of_cells (g := id) (fun hi hhi => by interval_cases hi <;> rfl) op

theorem decodeOp_wellFormed (op b1 b2 : Byte) : (decodeOp op b1 b2).wellFormed = true :=
  decodeOp_of_cells (g := fun _ => true) (fun hi hhi => by interval_cases hi <;> rfl) op

/-- An instruction does not depend on operand bytes that the machine does not read for its opcode (R150, R253, R291). -/
theorem decodeOp_unread (op b1 b2 : Byte) :
    decodeOp op b1 b2 = decodeOp op (if operandBytes op = 0 then 0 else b1) (if operandBytes op ≤ 1 then 0 else b2) :=
  decodeOp_of_cells (f := id)
    (g := fun op => decodeOp op (if operandBytes op = 0 then 0 else b1) (if operandBytes op ≤ 1 then 0 else b2))
    (fun hi hhi => by interval_cases hi <;> rfl) op

/-- Decoding takes the first two bytes after the opcode, where there are as many as the machine reads (R120). -/
theorem decode_cons {op : Byte} {bytes : List Byte} (h : operandBytes op ≤ bytes.length) :
    decode (op :: bytes) = .ok (decodeOp op (bytes.getD 0 0) (bytes.getD 1 0)) := by
  have hle := Machine.operandBytes_le_two op
  rw [decodeOp_unread]
  rcases (by omega : operandBytes op = 0 ∨ operandBytes op = 1 ∨ operandBytes op = 2) with hn | hn | hn
  · simp [decode, hn]
  · obtain _ | ⟨b1, rest⟩ := bytes
    · simp [hn] at h
    · simp [decode, hn]
  · obtain _ | ⟨b1, _ | ⟨b2, rest⟩⟩ := bytes
    · simp [hn] at h
    · simp [hn] at h
    · simp [decode, hn]

/-- Settles O2: the instruction of the opcode's cell is well-formed and has that opcode, so it stands in the opcode's row. -/
theorem everyOpcodeByteSelectsItsRow : Obligations.EveryOpcodeByteSelectsItsRow := by
  intro op b1 b2
  have hdecode : decode [op, b1, b2] = .ok (decodeOp op b1 b2) := decode_cons (Machine.operandBytes_le_two op)
  have hwf := decodeOp_wellFormed op b1 b2
  have hop := decodeOp_opcode op b1 b2
  obtain ⟨hrow, hmnemonic, hsize⟩ := Laws.RowMatches.of_instr _ hwf
  rw [Instr.row, hop] at hrow hmnemonic hsize
  exact ⟨hrow, _, hdecode, hwf, hop, hmnemonic.symm, hsize.symm⟩

/-! ### From the instruction to its bytes and back -/

section
variable {b1 b2 : Byte}

theorem eq_of_byte_prefix {b : Byte} (h : [b] <+: [b1, b2]) : b = b1 := by simpa using h

theorem mkWord_loByte_hiByte (w : Word) : mkWord (loByte w) (hiByte w) = w := by
  refine BitVec.eq_of_toNat_eq ?_
  rw [Machine.mkWord_toNat, Machine.loByte_toNat, Machine.hiByte_toNat]
  omega

/-- A 16-bit operand has its low byte first (R122). -/
theorem eq_mkWord_of_prefix {w : Word} (h : wordBytes w <+: [b1, b2]) : w = mkWord b1 b2 := by
  obtain ⟨rfl, rfl⟩ : loByte w = b1 ∧ hiByte w = b2 := by simpa [wordBytes] using h
  exact (mkWord_loByte_hiByte w).symm

/-- The memory operands with the given operand bytes: one of each format (R121). -/
theorem AddrMode.eq_of_prefix {m : AddrMode} (h : m.bytes <+: [b1, b2]) :
    m = .zp b1 ∨ m = .zpX b1 ∨ m = .zpY b1 ∨ m = .abs (mkWord b1 b2) ∨ m = .absX (mkWord b1 b2) ∨
      m = .absY (mkWord b1 b2) ∨ m = .indX b1 ∨ m = .indY b1 := by
  cases m
  case abs | absX | absY => simp [eq_mkWord_of_prefix h]
  all_goals simp [eq_of_byte_prefix h]

/-- The cells of instructions that differ in the opcode byte only. -/
theorem decodeOp_of_contains {cells : List Byte} {mk : Byte → Instr} {op : Byte}
    (hcells : cells.map (decodeOp · b1 b2) = cells.map mk) (h : cells.contains op = true) : decodeOp op b1 b2 = mk op :=
  List.map_inj_left.1 hcells op (List.contains_iff_mem.1 h)

theorem decodeOp_nopUnofficial {op : Byte} {m : NopOperand} (hwf : m.cells.contains op = true)
    (hb : m.bytes <+: [b1, b2]) : decodeOp op b1 b2 = .nopUnofficial op m := by
  refine decodeOp_of_contains (mk := (.nopUnofficial · m)) ?_ hwf
  rcases m with _ | b | m
  · rfl
  · cases eq_of_byte_prefix hb
    rfl
  · rcases AddrMode.eq_of_prefix hb with rfl | rfl | rfl | rfl | rfl | rfl | rfl | rfl <;> rfl

/-- The cell of a well-formed instruction's opcode gives the instruction back from its operand bytes (R121, R122, R129). -/
theorem decodeOp_of_operands {i : Instr} (hwf : i.wellFormed = true) (hb : i.operands <+: [b1, b2]) :
    decodeOp i.opcode b1 b2 = i := by
  cases i
  case nopUnofficial op m => exact decodeOp_nopUnofficial hwf hb
  case kil op => exact decodeOp_of_contains (mk := .kil) rfl hwf
  case anc op => exact decodeOp_of_contains (mk := .anc) rfl hwf
  case ahx op => exact decodeOp_of_contains (mk := .ahx) rfl hwf
  case lda m | ldx m | ldy m | adc m | sbc m | and m | ora m | eor m | cmp m | cpx m | cpy m =>
    rcases m with b | m
    · cases eq_of_byte_prefix hb
      dsimp only [Instr.opcode, ReadOperand.pick]
      rfl
    · rcases AddrMode.eq_of_prefix hb with rfl | rfl | rfl | rfl | rfl | rfl | rfl | rfl <;> cases hwf <;>
        dsimp only [Instr.opcode, ReadOperand.pick, AddrMode.pick] <;> rfl
  case asl m | lsr m | rol m | ror m =>
    rcases m with _ | m
    · rfl
    · rcases AddrMode.eq_of_prefix hb with rfl | rfl | rfl | rfl | rfl | rfl | rfl | rfl <;> cases hwf <;>
        dsimp only [Instr.opcode, ShiftOperand.pick, AddrMode.pick] <;> rfl
  case sta m | stx m | sty m | bit m | inc m | dec m | lax m | sax m | dcp m | isb m | slo m | rla m | sre m | rra m =>
    rcases AddrMode.eq_of_prefix hb with rfl | rfl | rfl | rfl | rfl | rfl | rfl | rfl <;> cases hwf <;>
      dsimp only [Instr.opcode, AddrMode.pick] <;> rfl
  case bpl d | bmi d | bvc d | bvs d | bcc d | bcs d | bne d | beq d | sbcEB d =>
    cases eq_of_byte_prefix hb
    dsimp only [Instr.opcode]
    rfl
  case jmp t => cases t <;> cases eq_mkWord_of_prefix hb <;> dsimp only [Instr.opcode] <;> rfl
  case jsr w =>
    cases eq_mkWord_of_prefix hb
    dsimp only [Instr.opcode]
    rfl
  all_goals rfl

end

theorem rowSize_le_three : ∀ op : Byte, (rowOf op).size ≤ 3 := by
  decide +kernel

/-- The machine reads no bytes past the row's size (R150). -/
theorem operandBytes_le_size (op : Byte) : operandBytes op ≤ (rowOf op).size - 1 := by
  unfold operandBytes
  split
  · exact Nat.zero_le _
  · exact le_rfl

theorem operands_length {i : Instr} (hwf : i.wellFormed = true) : i.operands.length = (rowOf i.opcode).size - 1 := by
  obtain ⟨-, -, hsize⟩ := Laws.RowMatches.of_instr i hwf
  simp only [Instr.row, Instr.size] at hsize
  omega

theorem prefix_firstTwo {l : List Byte} (h : l.length ≤ 2) (rest : List Byte) :
    l <+: [(l ++ rest).getD 0 0, (l ++ rest).getD 1 0] := by
  match l, h with
  | [], _ => exact List.nil_prefix
  | [_], _ => simp
  | [_, _], _ => simp

/-- Settles O1: the bytes after the opcode begin with the operands, from which the opcode's cell gives the instruction back. -/
theorem decodeOfEncode : Obligations.DecodeOfEncode := by
  intro i rest hwf
  have hlen := operands_length hwf
  have hread : operandBytes i.opcode ≤ (i.operands ++ rest).length := by
    have := operandBytes_le_size i.opcode
    rw [List.length_append]
    omega
  have htwo : i.operands.length ≤ 2 := by
    have := rowSize_le_three i.opcode
    omega
  rw [encode, List.cons_append, decode_cons hread, decodeOp_of_operands hwf (prefix_firstTwo htwo rest)]

/-! ### Words written out -/

/-- Settles O3: each word is decoded by evaluation, from its opcode's cell. -/
theorem sampleWordsDecode : Obligations.SampleWordsDecode := by
  unfold Obligations.SampleWordsDecode
  and_intros <;> rfl

end Sys2Proof
end

-- ---- Proofs: The rows of well-formed instructions ----
section
/-! SUPPORT. The columns of the decode table for a well-formed instruction, read off the opcode map: the class (R124) and the
page-cross penalty (R149); and the lists of encodings that the statements give (R121, R130). -/

namespace Sys2Proof

/-- The operand bytes of a well-formed instruction, with which its opcode's cell gives it back (R121, R129). -/
theorem decodeOp_operands {i : Instr} (hwf : i.wellFormed = true) :
    decodeOp i.opcode (i.operands.getD 0 0) (i.operands.getD 1 0) = i := by
  have hlen := operands_length hwf
  have hrow := rowSize_le_three i.opcode
  have hprefix := prefix_firstTwo (l := i.operands) (by omega) []
  rw [List.append_nil] at hprefix
  exact decodeOp_of_operands hwf hprefix

/-- What is a function of the opcode byte in every cell of the opcode map is so of every well-formed instruction (R129). -/
theorem eq_of_cells {α : Type} {f : Instr → α} {g : Byte → α}
    (h : ∀ b1 b2, ∀ hi < 16, (cellBlock hi b1 b2).map f = (List.range 16).map fun lo => g (BitVec.ofNat 8 (16 * hi + lo)))
    {i : Instr} (hwf : i.wellFormed = true) : f i = g i.opcode := by
  conv_lhs => rw [← decodeOp_operands hwf]
  exact decodeOp_of_cells (h _ _) i.opcode

namespace Machine

/-! ### The class -/

/-- The instructions behind the gate are those of class unofficial (R124, R280). -/
theorem gatedInstr_eq {i : Instr} (hwf : i.wellFormed = true) :
    gatedInstr i = decide ((rowOf i.opcode).cls = .unofficial) :=
  eq_of_cells (f := gatedInstr) (g := fun op => decide ((rowOf op).cls = .unofficial))
    (fun b1 b2 hi hhi => by interval_cases hi <;> rfl) hwf

/-- The instructions that always halt are those of class halting (R124, R291). -/
theorem haltingInstr_eq {i : Instr} (hwf : i.wellFormed = true) :
    haltingInstr i = decide ((rowOf i.opcode).cls = .halting) :=
  eq_of_cells (f := haltingInstr) (g := fun op => decide ((rowOf op).cls = .halting))
    (fun b1 b2 hi hhi => by interval_cases hi <;> rfl) hwf

/-- A well-formed instruction whose opcode halts does so, whatever its operand bytes (R291, R401). -/
theorem exec_wellFormed_halts {i : Instr} {s : State} (hwf : i.wellFormed = true) (h : haltsOn i.opcode s.params = true) :
    exec i s = haltTick i.opcode s := by
  unfold haltsOn at h
  split at h
  case h_1 => cases h
  case h_2 hcls =>
    obtain ⟨k, hk⟩ := exec_gatedInstr ((gatedInstr_eq hwf).trans (decide_eq_true hcls)) s
    rw [hk, gated_closed k (by simpa using h)]
  case h_3 hcls => exact exec_haltingInstr ((haltingInstr_eq hwf).trans (decide_eq_true hcls)) s

/-! ### Lists of encodings -/

theorem encodesAs_nil : encodesAs [] := List.forall_mem_nil _

/-- An entry of a list of encodings, whose cycles are those of the opcode byte that it writes first. -/
theorem encodesAs_cons {i : Instr} {op : Byte} {bytes : List Byte} {n : Nat} {l : List (Instr × List Byte × Nat)}
    (hwf : i.wellFormed = true) (hbytes : encode i = op :: bytes) (hcycles : (rowOf op).cycles = n) (h : encodesAs l) :
    encodesAs ((i, op :: bytes, n) :: l) := by
  obtain ⟨rfl, -⟩ := List.cons.inj hbytes
  exact List.forall_mem_cons.2 ⟨⟨hwf, hbytes, hcycles⟩, h⟩

/-! ### The page-cross penalty -/

/-- The forms that the rule of the page-cross penalty names (R149), with the operands `w` and `b`; `op` is the opcode of the
unofficial NOP. -/
def pageForms (w : Word) (b op : Byte) : List Instr :=
  [.lda (.mem (.absX w)), .lda (.mem (.absY w)), .lda (.mem (.indY b)), .ldx (.mem (.absY w)),
    .ldy (.mem (.absX w)), .eor (.mem (.absX w)), .eor (.mem (.absY w)), .eor (.mem (.indY b)),
    .and (.mem (.absX w)), .and (.mem (.absY w)), .and (.mem (.indY b)), .ora (.mem (.absX w)), .ora (.mem (.absY w)),
    .ora (.mem (.indY b)), .adc (.mem (.absX w)), .adc (.mem (.absY w)), .adc (.mem (.indY b)), .sbc (.mem (.absX w)),
    .sbc (.mem (.absY w)), .sbc (.mem (.indY b)), .cmp (.mem (.absX w)), .cmp (.mem (.absY w)), .cmp (.mem (.indY b)),
    .lax (.absY w), .lax (.indY b), .nopUnofficial op (.mem (.absX w))]

/-- The instruction is of one of those forms, whatever its operand. -/
def pageForm : Instr → Bool
  | .lda (.mem m) | .adc (.mem m) | .sbc (.mem m) | .and (.mem m) | .ora (.mem m) | .eor (.mem m) | .cmp (.mem m) =>
    match m with
    | .absX _ | .absY _ | .indY _ => true
    | _ => false
  | .ldx (.mem (.absY _)) | .ldy (.mem (.absX _)) | .lax (.absY _) | .lax (.indY _) | .nopUnofficial _ (.mem (.absX _)) => true
  | _ => false

theorem pageForm_of_mem {w : Word} {b op : Byte} : ∀ i ∈ pageForms w b op, pageForm i = true :=
  List.all_eq_true.1 rfl

theorem mem_of_pageForm {i : Instr} (h : pageForm i = true) : ∃ w b, i ∈ pageForms w b i.opcode := by
  unfold pageForm at h
  split at h
  case h_13 => cases h
  case h_1 | h_2 | h_3 | h_4 | h_5 | h_6 | h_7 => split at h <;> simp [pageForms] at h ⊢
  all_goals simp [pageForms, Instr.opcode]

/-- The rows with the penalty are those of the forms that the rule names (R130, R149). -/
theorem pageForm_eq {i : Instr} (hwf : i.wellFormed = true) : pageForm i = decide (i.row.penalty = .page) :=
  eq_of_cells (f := pageForm) (g := fun op => decide ((rowOf op).penalty = .page))
    (fun b1 b2 hi hhi => by interval_cases hi <;> rfl) hwf

theorem pagePenalty_eq_one_iff (i : Instr) (crossed : Bool) :
    pagePenalty i crossed = 1 ↔ crossed = true ∧ i.row.penalty = .page := by
  simp [pagePenalty, and_comm]

theorem pagePenalty_cases (i : Instr) (crossed : Bool) : pagePenalty i crossed = 0 ∨ pagePenalty i crossed = 1 := by
  unfold pagePenalty
  split
  · exact .inr rfl
  · exact .inl rfl

/-- Settles O13: the penalty is the row's, and the rows that have it are those of the forms that the rule names. -/
theorem pageCrossPenaltyForms : Obligations.PageCrossPenaltyForms := by
  intro i crossed hwf
  refine ⟨?_, pagePenalty_cases i crossed⟩
  rw [pagePenalty_eq_one_iff, ← decide_eq_true_iff (p := i.row.penalty = .page), ← pageForm_eq hwf]
  exact and_congr_right fun _ => ⟨mem_of_pageForm, fun ⟨_, _, h⟩ => pageForm_of_mem i h⟩

end Machine

end Sys2Proof
end

-- ---- Proofs: The cycle counts ----
section
/-! SUPPORT. No instruction returns more than 8 cycles (R130, R149, R152, R240): a step that ended at an access, or that halts,
returns none, and the others their row's cycles and an extra that each shape of instruction bounds. -/

namespace Sys2Proof.Machine

/-! ### The rows -/

theorem rowCycles_le : ∀ op : Byte, (rowOf op).cycles ≤ 8 := by
  decide +kernel

/-- The rows with the page-cross penalty leave room for it (R130). -/
theorem rowCycles_le_of_page : ∀ op : Byte, (rowOf op).penalty = .page → (rowOf op).cycles ≤ 7 := by
  decide +kernel

theorem cycles_add_pagePenalty_le (i : Instr) (crossed : Bool) : i.row.cycles + pagePenalty i crossed ≤ 8 := by
  unfold pagePenalty
  split
  case isTrue h => exact Nat.succ_le_succ (rowCycles_le_of_page i.opcode h.1)
  case isFalse => exact rowCycles_le i.opcode

/-! ### The shapes of the instructions -/

/-- The value, if the step goes on, satisfies `P`. -/
def Bus.Yields {α : Type} (P : α → Prop) (r : Bus α) : Prop := ∀ v s, r = .ok v s → P v

theorem yields_ok {α : Type} {P : α → Prop} {v : α} (s : State) (h : P v) : (Bus.ok v s).Yields P := by
  rintro _ _ ⟨⟩
  exact h

theorem yields_bind {α β : Type} {P : β → Prop} {r : Bus α} {k : α → State → Bus β} (h : ∀ v s, (k v s).Yields P) :
    (r.bind k).Yields P := by
  cases r with
  | ok v s => exact h v s
  | stop s => rintro _ _ ⟨⟩

/-- Every next state that the result can be owes the PPU at most 8 cycles. -/
def WithinEight (r : Result) : Prop := ∀ t, r = .next t → t.cycles ≤ 8

theorem withinEight_complete {i : Instr} {r : Bus Nat} (h : r.Yields (i.row.cycles + · ≤ 8)) : WithinEight (complete i r) := by
  intro t ht
  cases r with
  | ok n s =>
    cases ht
    exact h n s rfl
  | stop s =>
    cases ht
    exact Nat.zero_le 8

theorem withinEight_haltTick (op : Byte) (s : State) : WithinEight (haltTick op s) := by
  rintro _ ⟨⟩
  exact Nat.zero_le 8

theorem withinEight_behindGate {i : Instr} {k : State → Result} {s : State} (h : WithinEight (k s)) :
    WithinEight (behindGate i k s) := by
  rcases behindGate_cases i k s with hgate | hgate
  · exact hgate ▸ h
  · exact hgate ▸ withinEight_haltTick i.opcode s

theorem withinEight_register (i : Instr) (f : State → State) (s : State) : WithinEight (register i f s) :=
  withinEight_complete (yields_ok _ (rowCycles_le i.opcode))

theorem withinEight_stacked (i : Instr) (f : State → Bus Unit) (s : State) : WithinEight (stacked i f s) :=
  withinEight_complete (yields_bind fun _ u => yields_ok u (rowCycles_le i.opcode))

theorem withinEight_branchOp {i : Instr} (h : i.row.cycles = 2) (d : Byte) (cond : Bool) (s : State) :
    WithinEight (branchOp i d cond s) := by
  unfold branchOp
  split
  · refine withinEight_complete (yields_ok _ ?_)
    unfold bit
    split <;> omega
  · exact withinEight_complete (yields_ok _ (rowCycles_le i.opcode))

theorem withinEight_shiftAcc (i : Instr) (k : ShiftKind) (s : State) : WithinEight (shiftOp i k .acc s) :=
  withinEight_complete (yields_ok _ (rowCycles_le i.opcode))

theorem withinEight_read {i : Instr} {m : ReadOperand} (h : readOperand i = some m) (s : State) : WithinEight (exec i s) := by
  rw [exec_read h]
  exact withinEight_behindGate (withinEight_complete (yields_bind fun r u =>
    yields_ok _ (cycles_add_pagePenalty_le i r.crossed)))

theorem withinEight_write {i : Instr} {m : AddrMode} (h : writeOperand i = some m) (s : State) : WithinEight (exec i s) := by
  rw [exec_write h]
  exact withinEight_behindGate (withinEight_complete (yields_bind fun _ _ => yields_bind fun _ u =>
    yields_ok u (rowCycles_le i.opcode)))

theorem withinEight_modify {i : Instr} {m : AddrMode} (h : modifyOperand i = some m) (s : State) : WithinEight (exec i s) := by
  rw [exec_modify h]
  exact withinEight_behindGate (withinEight_complete (yields_bind fun _ _ => yields_bind fun _ _ => yields_bind fun _ _ =>
    yields_ok _ (rowCycles_le i.opcode)))

theorem withinEight_halting {i : Instr} (h : haltingInstr i = true) (s : State) : WithinEight (exec i s) :=
  exec_haltingInstr h s ▸ withinEight_haltTick i.opcode s

/-! ### Every instruction -/

theorem withinEight_exec (i : Instr) (s : State) : WithinEight (exec i s) := by
  cases i
  case lda | ldx | ldy | adc | sbc | and | ora | eor | cmp | cpx | cpy | bit | lax | sbcEB => exact withinEight_read rfl s
  case sta | stx | sty | sax => exact withinEight_write rfl s
  case inc | dec | dcp | isb | slo | rla | sre | rra => exact withinEight_modify rfl s
  case asl m | lsr m | rol m | ror m =>
    cases m with
    | acc => exact withinEight_shiftAcc _ _ s
    | mem m => exact withinEight_modify rfl s
  case nopUnofficial op m =>
    cases m with
    | implied => exact withinEight_behindGate (i := .nopUnofficial op .implied) (withinEight_register _ _ s)
    | imm b | mem m => exact withinEight_read rfl s
  case bpl | bmi | bvc | bvs | bcc | bcs | bne | beq =>
    exact withinEight_branchOp (by dsimp only [Instr.row, Instr.opcode]; rfl) _ _ s
  case jmp | jsr | rts | rti | brk | pha | php | pla | plp =>
    unfold exec
    exact withinEight_stacked _ _ s
  case kil | anc | alr | arr | xaa | ahx | tas | shy | shx | lxa | las | axs => exact withinEight_halting rfl s
  all_goals
    unfold exec
    exact withinEight_register _ _ s

/-- Settles O9: the answer is a next state by `answers_exec`; its cycles are the row's and the extra of the instruction's shape. -/
theorem everyInstructionAnswersANextState : Obligations.EveryInstructionAnswersANextState := by
  intro i s
  obtain ⟨t, ht, -⟩ := answers_exec i s
  exact ⟨t, ht, fun _ => withinEight_exec i s t ht⟩

end Sys2Proof.Machine
end

-- ---- Proofs: The effective address ----
section
/-! SUPPORT. GetAddress in unbounded integers (R142 to R146). -/

namespace Sys2Proof.Machine

/-- An address and its base lie in different pages when their high bytes differ (R144). -/
theorem pageCrossed_eq (base ea : Word) : pageCrossed base ea = decide (base.toNat / 256 ≠ ea.toNat / 256) := by
  rw [pageCrossed, ← hiByte_toNat, ← hiByte_toNat, bne, beq_eq_decide, ← decide_not, decide_eq_decide]
  exact not_congr BitVec.toNat_inj.symm

theorem indexed_addr_toNat (base : Word) (index : Byte) :
    (indexed base index).addr.toNat = (base.toNat + index.toNat) % 65536 := by
  rw [indexed, BitVec.toNat_add, zext_toNat]

theorem indexed_crossed (base : Word) (index : Byte) :
    (indexed base index).crossed = decide (base.toNat / 256 ≠ (indexed base index).addr.toNat / 256) :=
  pageCrossed_eq _ _

theorem mkWord_page (lo hi : Byte) : (mkWord lo hi).toNat / 256 = hi.toNat := by
  rw [mkWord_toNat]
  have := lo.isLt
  omega

/-- Settles O11: the equations of `addressed`, with the sums of words in integers. -/
theorem effectiveAddressOfEveryFormat : Obligations.EffectiveAddressOfEveryFormat := by
  intro s b w
  have hone : (b + 1).toNat = (b.toNat + 1) % 256 := BitVec.toNat_add b 1
  have hx : (b + s.x).toNat = (b.toNat + s.x.toNat) % 256 := BitVec.toNat_add b s.x
  have hx1 : (b + s.x + 1).toNat = (b.toNat + s.x.toNat + 1) % 256 := by
    rw [BitVec.toNat_add, hx]
    exact Nat.mod_add_mod _ 256 1
  refine ⟨fun m => effAddr_eq m s, ?_, ?_, ?_, rfl, ?_, ?_, ?_, ?_, ?_, ?_, ?_, ?_⟩
  · exact zext_toNat b
  · rw [addressed_zpX, zext_toNat, hx]
  · rw [addressed_zpY, zext_toNat, BitVec.toNat_add]
  · exact indexed_addr_toNat w s.x
  · exact indexed_addr_toNat w s.y
  · rw [addressed_indX, mkWord_toNat, hx, hx1]
  · rw [addressed_indY, indexed_addr_toNat, mkWord_toNat, hone]
  · exact indexed_crossed w s.x
  · exact indexed_crossed w s.y
  · rw [addressed_indY, indexed_crossed, mkWord_page, hone]
  · simp

end Sys2Proof.Machine
end

-- ---- Proofs: The step that runs an instruction ----
section
/-! SUPPORT. Where nothing stands before the fetch, a step is the instruction whose bytes stand at the pc (R140, R420). -/

namespace Sys2Proof.Machine

/-- Operand bytes that RAM, save RAM or ROM holds are fetched without a change of the state (R67, R140). -/
theorem fetchOperands_of_byteAt {op b1 b2 : Byte} {s : State} (hruns : haltsOn op s.params = false)
    (h1 : 1 ≤ operandBytes op → byteAt (s.pc + 1) s = some b1) (h2 : 2 ≤ operandBytes op → byteAt (s.pc + 2) s = some b2) :
    fetchOperands op s = .ok (decodeOp op b1 b2) s := by
  have hle := operandBytes_le_two op
  rw [decodeOp_unread]
  rcases (by omega : operandBytes op = 0 ∨ operandBytes op = 1 ∨ operandBytes op = 2) with hn | hn | hn
  · rw [fetchOperands_none hruns hn]
    simp [hn]
  · rw [fetchOperands_one hruns hn, cpuRead_of_byteAt (h1 hn.ge)]
    simp [hn]
  · rw [fetchOperands_two hruns hn, cpuRead_of_byteAt (h1 (by omega)), Bus.bind_ok, cpuRead_of_byteAt (h2 hn.ge)]
    simp [hn]

/-- The tick at the bytes of a well-formed instruction is that instruction, halting or not (R140, R291). -/
theorem cpuTick_encoded {i : Instr} {s : State} (hwf : i.wellFormed = true) (hint : interruptToService s = none)
    (hbytes : ∀ (k : Nat) (b : Byte), (encode i)[k]? = some b → byteAt (s.pc + BitVec.ofNat 16 k) s = some b) :
    cpuTick s = exec i s := by
  have hop : cpuRead s.pc s = .ok i.opcode s := cpuRead_of_byteAt (by simpa using hbytes 0 i.opcode rfl)
  by_cases hhalts : haltsOn i.opcode s.params = true
  · rw [cpuTick_operands hint hop (fetchOperands_halts hhalts), exec_of_haltsOn hhalts, exec_wellFormed_halts hwf hhalts]
  · have hoperand (k : Nat) (hk : k + 1 ≤ operandBytes i.opcode) :
        byteAt (s.pc + BitVec.ofNat 16 (k + 1)) s = some (i.operands.getD k 0) := by
      have hlen : k < i.operands.length := by
        have := operandBytes_le_size i.opcode
        rw [operands_length hwf]
        omega
      refine hbytes (k + 1) _ ?_
      rw [encode, List.getElem?_cons_succ, List.getD_eq_getElem?_getD, List.getElem?_eq_getElem hlen, Option.getD_some]
    rw [cpuTick_operands hint hop (fetchOperands_of_byteAt (by simpa using hhalts) (hoperand 0) (hoperand 1)),
      decodeOp_operands hwf]

/-- An iteration in which an agent steps is a CPU tick and the PPU ticks it owes (R420). -/
theorem iterate_of_cpuTick {s t : State} (hstop : stopReason s = none) (h : cpuTick s = .next t) :
    iterate s = .next (catchUp t) := by
  rw [iterate, hstop, h]
  rfl

/-- Settles O4: both forms of the host list lead to `iterate s`, whose tick is the instruction. -/
theorem stepRunsTheDecodedInstruction : Obligations.StepRunsTheDecodedInstruction := by
  intro i s t hwf hstop hint hbytes hexec
  have hiterate := iterate_of_cpuTick hstop ((cpuTick_encoded hwf hint hbytes).trans hexec)
  refine ⟨hiterate, fun hhost => ?_⟩
  rw [step, hhost]
  exact hiterate

end Sys2Proof.Machine
end

-- ---- Proofs: Accesses that go on ----
section
/-! SUPPORT. The instructions of the read class and of the read-modify-write class whose accesses go on (R66, R150, R151,
R400). -/

namespace Sys2Proof.Machine

/-! ### The loaded operand -/

section
variable {m : ReadOperand} {s : State}

theorem operandRead_answers (h : operandAnswers m s = true) : ∃ v t, operandRead m s = .ok v t := by
  cases m with
  | imm b => exact ⟨b, s, rfl⟩
  | mem m => exact cpuRead_answers (by simpa [operandAnswers, readAnswers] using h)

/-- Loading an operand leaves the registers and P (R67, R151). -/
theorem operandRead_registers {v : Byte} {t : State} (h : operandRead m s = .ok v t) :
    t.a = s.a ∧ t.x = s.x ∧ t.y = s.y ∧ t.p = s.p := by
  cases m with
  | imm b =>
    cases h
    exact ⟨rfl, rfl, rfl, rfl⟩
  | mem m =>
    have heffects : t = s.withReadEffects t := by
      have := cpuRead_effects (addressed m s).addr s
      rwa [show cpuRead (addressed m s).addr s = .ok v t from h] at this
    rw [heffects]
    exact ⟨rfl, rfl, rfl, rfl⟩

theorem behindGate_open {i : Instr} (k : State → Result)
    (hgate : gatedInstr i = true → s.params.unofficialSet.contains i.opcode = true) : behindGate i k s = k s := by
  unfold behindGate
  split
  case isTrue hg => exact gated_open k (hgate hg)
  case isFalse => rfl

/-- An instruction of the read class, its gate open, once its operand is loaded (R150, R280). -/
theorem exec_read_next {i : Instr} {v : Byte} {t : State} (hi : readOperand i = some m)
    (hgate : gatedInstr i = true → s.params.unofficialSet.contains i.opcode = true) (h : operandRead m s = .ok v t) :
    exec i s = .next ((readEffect i v { t with pc := nextPc i s }).setCycles (cyclesOf i (operandCrossed m s))) := by
  rw [exec_read hi, behindGate_open _ hgate, readOp_next h]

end

/-! ### Writes that go on -/

/-- An OAM-DMA transfer goes on when its page is readable or the policy is record_and_continue (R66, R320). -/
theorem oamDmaFrom_answers {d : Byte} (n i : Nat) {s : State}
    (h : (∀ lo, readable (mkWord lo d) = true) ∨ s.params.busFaultPolicy = .recordAndContinue) :
    ∃ t, oamDmaFrom d n i s = .ok () t := by
  induction n generalizing i s with
  | zero => exact ⟨s, rfl⟩
  | succ n ih =>
    obtain ⟨v, t, ht⟩ := cpuRead_answers (a := mkWord (BitVec.ofNat 8 i) d) (s := s) (h.imp_left fun hpage => hpage _)
    obtain ⟨hparams, -⟩ := cpuRead_ok_fixed ht
    rw [oamDmaFrom, ht, Bus.bind_ok]
    exact ih (i + 1) (h.imp_right fun hp => (congrArg Params.busFaultPolicy hparams).trans hp)

/-- Every address of a page outside 0x40 to 0x5F is in a region (R60). -/
theorem readable_page {d : Byte} (h : d.toNat ≤ 0x3F ∨ 0x60 ≤ d.toNat) (lo : Byte) : readable (mkWord lo d) = true := by
  have := lo.isLt
  by_contra hread
  obtain ⟨hlow, hhigh, -⟩ := (readable_eq_false_iff _).1 (eq_false_of_ne_true hread)
  rw [mkWord_toNat] at hlow hhigh
  omega

/-- A write to a readable address goes on: only OAM-DMA starts a transfer, and it cannot be read (R60). -/
theorem cpuWrite_readable {a : Word} (h : readable a = true) (d : Byte) (s : State) : ∃ t, cpuWrite a d s = .ok () t := by
  simp only [readable, Bool.or_eq_true, decide_eq_true_eq, beq_iff_eq] at h
  obtain (hlow | rfl) | hcart := h
  · by_cases hram : a.toNat ≤ 0x1FFF
    · exact ⟨_, cpuWrite_ram hram d s⟩
    · exact ⟨_, cpuWrite_port (by omega) hlow d s⟩
  · exact ⟨_, rfl⟩
  · exact ⟨_, cpuWrite_cart hcart d s⟩

/-- A write goes on where the claims say that it does (R66, R320, R400). -/
theorem cpuWrite_answers {a : Word} {d : Byte} {s : State} (h : writeAnswers a d s = true) :
    ∃ t, cpuWrite a d s = .ok () t := by
  simp only [writeAnswers, Bool.or_eq_true, Bool.and_eq_true, beq_iff_eq, bne_iff_ne, decide_eq_true_eq] at h
  by_cases hread : readable a = true
  · exact cpuWrite_readable hread d s
  by_cases hdma : a = 0x4014
  · subst hdma
    refine oamDmaFrom_answers 256 0 (s := s) ?_
    rcases h with hp | ⟨-, (hne | hlow) | hhigh⟩
    · exact .inr hp
    · contradiction
    · exact .inl (readable_page (.inl hlow))
    · exact .inl (readable_page (.inr hhigh))
  · have hw : writable a = false := writable_eq_false_iff.2 ⟨eq_false_of_ne_true hread, hdma⟩
    have hp : s.params.busFaultPolicy = .recordAndContinue := h.resolve_right fun hrest => by simp [hw] at hrest
    exact ⟨_, cpuWrite_recordAndContinue hw hp d⟩

/-- Where a read goes on, so does every write. -/
theorem cpuWrite_answers_of_read {a : Word} {s t : State} {v : Byte} (h : readAnswers a s = true)
    (hread : cpuRead a s = .ok v t) (d : Byte) : ∃ u, cpuWrite a d t = .ok () u := by
  obtain ⟨hparams, -⟩ := cpuRead_ok_fixed hread
  simp only [readAnswers, Bool.or_eq_true, beq_iff_eq] at h
  rcases h with hr | hp
  · exact cpuWrite_readable hr d t
  · refine cpuWrite_answers ?_
    rw [writeAnswers, hparams, hp]
    rfl

/-! ### Accesses after P and the pc have been written -/

/-- A read looks at neither P nor the pc. -/
theorem cpuRead_status (a : Word) (p' : Byte) (w : Word) (s : State) :
    cpuRead a { s with p := p', pc := w } = (cpuRead a s).mapState fun t => { t with p := p', pc := w } := by
  have heffects := cpuRead_effects a s
  have hregisters := cpuRead_registers a s s.a s.x s.y s.sp p' w s.cycles
  cases hread : cpuRead a s with
  | ok v t | stop t =>
    replace heffects : t = s.withReadEffects t := by rwa [hread] at heffects
    rw [hregisters, hread, heffects]
    rfl

theorem ppuPortWrite_status (port : Nat) (d p' : Byte) (w : Word) (s : State) :
    ppuPortWrite port d { s with p := p', pc := w } = { ppuPortWrite port d s with p := p', pc := w } := by
  unfold ppuPortWrite
  split
  case h_8 =>
    unfold dataWrite ppuWrite
    dsimp only
    split
    · rfl
    split <;> rfl
  all_goals rfl

theorem oamDmaFrom_status (d p' : Byte) (n i : Nat) (w : Word) (s : State) :
    oamDmaFrom d n i { s with p := p', pc := w } =
      (oamDmaFrom d n i s).mapState fun t => { t with p := p', pc := w } := by
  induction n generalizing i s with
  | zero => rfl
  | succ n ih =>
    rw [oamDmaFrom, oamDmaFrom, cpuRead_status]
    exact Bus.bind_mapState fun b t => ih (i + 1) (t.oamPut i b)

/-- A write looks at neither P nor the pc. -/
theorem cpuWrite_status (a : Word) (d p' : Byte) (w : Word) (s : State) :
    cpuWrite a d { s with p := p', pc := w } = (cpuWrite a d s).mapState fun t => { t with p := p', pc := w } := by
  unfold cpuWrite
  split
  · rfl
  split
  · rw [ppuPortWrite_status, Bus.mapState_ok]
  split
  · exact oamDmaFrom_status d p' 256 0 w s
  split
  · rfl
  split
  · rfl
  · unfold illegalWrite
    dsimp only
    split <;> rfl

/-! ### The read-modify-write class -/

theorem modified_pc (i : Instr) (v : Byte) (w : Word) (s : State) :
    modified i v { s with pc := w } = ((modified i v s).1, { s with p := (modified i v s).2.p, pc := w }) := by
  unfold modified
  split <;> rfl

/-- A read-modify-write instruction, its gate open, whose read and write go on (R150, R280). -/
theorem exec_modify_next {i : Instr} {m : AddrMode} {s t u : State} {v : Byte} (hi : modifyOperand i = some m)
    (hgate : gatedInstr i = true → s.params.unofficialSet.contains i.opcode = true)
    (hread : cpuRead (addressed m s).addr s = .ok v t)
    (hwrite : cpuWrite (addressed m s).addr (modified i v t).1 t = .ok () u) :
    exec i s = .next ((afterModify i (modified i v t).1 { u with p := (modified i v t).2.p, pc := nextPc i s }).setCycles
      i.row.cycles) := by
  rw [exec_modify hi, behindGate_open _ hgate, modifyOp_read hread, modified_pc, cpuWrite_status, hwrite]
  rfl

end Sys2Proof.Machine
end

-- ---- Proofs: Arithmetic and compares ----
section
/-! SUPPORT. ADC, SBC, the compares and BIT on a loaded operand (R155 to R157, R200 to R208). -/

namespace Sys2Proof.Machine

/-! ### Addition and subtraction -/

section
variable {m : ReadOperand} {s t : State} {v : Byte} (h : operandRead m s = .ok v t)
include h

theorem exec_adc : exec (.adc m) s = .next { t with
    a := addResult s.a v (getFlag .c s.p), p := addFlags s.a v s.p
    pc := nextPc (.adc m) s, cycles := cyclesOf (.adc m) (operandCrossed m s) } := by
  obtain ⟨ha, -, -, hp⟩ := operandRead_registers h
  rw [exec_read_next rfl (by rintro ⟨⟩) h, ← ha, ← hp]
  rfl

/-- SBC is ADC of the one's complement (R156). -/
theorem exec_sbc : exec (.sbc m) s = .next { t with
    a := addResult s.a (v ^^^ 0xFF) (getFlag .c s.p), p := addFlags s.a (v ^^^ 0xFF) s.p
    pc := nextPc (.sbc m) s, cycles := cyclesOf (.sbc m) (operandCrossed m s) } := by
  obtain ⟨ha, -, -, hp⟩ := operandRead_registers h
  rw [exec_read_next rfl (by rintro ⟨⟩) h, ← ha, ← hp]
  rfl

end

theorem exec_sbcEB {s : State} (h : s.params.unofficialSet.contains 0xEB = true) (b : Byte) :
    exec (.sbcEB b) s = .next { s with
      a := addResult s.a (b ^^^ 0xFF) (getFlag .c s.p), p := addFlags s.a (b ^^^ 0xFF) s.p, pc := s.pc + 2, cycles := 2 } := by
  have hrow : (Instr.sbcEB b).row = rowOf 0xEB := rfl
  rw [exec_read_next (m := .imm b) rfl (fun _ => h) rfl, cyclesOf, pagePenalty, hrow]
  rfl

/-- Settles O18: the operand is loaded, and the core adds it or its one's complement to A. -/
theorem addAndSubtractWithCarry : Obligations.AddAndSubtractWithCarry := by
  refine ⟨fun b w => ?_, fun m b s => ⟨fun hm => ?_, fun hEB => ?_⟩⟩
  · repeat refine encodesAs_cons rfl rfl rfl ?_
    exact encodesAs_nil
  · obtain ⟨v, t, h⟩ := operandRead_answers hm
    exact ⟨v, t, _, _, _, _, h, addsTo_addCore s.a v s.p, addsTo_addCore s.a (v ^^^ 0xFF) s.p, exec_adc h, exec_sbc h⟩
  · exact ⟨_, _, addsTo_addCore s.a (b ^^^ 0xFF) s.p, exec_sbcEB hEB b⟩

theorem complement_toNat (b : Byte) : (b ^^^ 0xFF).toNat = 255 - b.toNat := by
  revert b; decide +kernel

theorem bit_not (c : Bool) : bit (!c) = 1 - bit c := by
  cases c <;> rfl

theorem bit_le_one (c : Bool) : bit c ≤ 1 := by
  cases c <;> decide

/-- In the sign-bit mismatch test the two complements of a subtraction cancel (R155, R156). -/
theorem complement_mismatch (a b : Byte) : ~~~(a ^^^ (b ^^^ 0xFF)) = a ^^^ b := by
  have hones : (0xFF : Byte) = BitVec.allOnes 8 := rfl
  rw [hones, BitVec.xor_allOnes, BitVec.not_xor_right, BitVec.not_not]

/-- Subtracting with the complementary carry undoes an addition. -/
theorem addResult_undo (a b : Byte) (c : Bool) : addResult (addResult a b c) (b ^^^ 0xFF) (!c) = a := by
  have ha := a.isLt
  have hb := b.isLt
  have hc := bit_le_one c
  apply BitVec.eq_of_toNat_eq
  simp only [addResult, addSum, BitVec.toNat_ofNat, complement_toNat, bit_not]
  omega

/-- Settles O19: SBC adds the one's complement, which in integers is 255 less the operand. -/
theorem subtractIsBorrowAndUndoesAdd : Obligations.SubtractIsBorrowAndUndoesAdd := by
  intro b s
  have hb := b.isLt
  obtain ⟨hr, hc, hv, -⟩ := addsTo_addCore s.a (b ^^^ 0xFF) s.p
  rw [complement_toNat] at hr hc
  rw [complement_mismatch] at hv
  have hundo := addResult_undo s.a b (getFlag .c s.p)
  rw [← getFlag_putFlag_same .c (!getFlag .c s.p) (addFlags s.a b s.p)] at hundo
  refine ⟨⟨_, exec_sbc (m := .imm b) rfl, ?_, ?_, ?_⟩, ⟨_, _, exec_adc (m := .imm b) rfl, exec_sbc (m := .imm b) rfl, ?_⟩⟩
  · exact hr.trans (congrArg (· % 256) (by omega))
  · exact hc.trans (decide_eq_decide.2 (by omega))
  · exact hv
  · exact hundo

/-! ### Compares -/

/-- P as BIT leaves it (R208). -/
def bitFlags (a m p : Byte) : Byte := putFlag .v (m.getLsbD 6) (putFlag .n (m.getLsbD 7) (putFlag .z ((a &&& m) == 0) p))

theorem bitFlags_keeps_b (a m p : Byte) : bitFlags a m p &&& 0x30 = p &&& 0x30 := by
  rw [bitFlags, putFlag_keeps_b, putFlag_keeps_b, putFlag_keeps_b]

theorem exec_bit {k : AddrMode} {s t : State} {v : Byte} (h : operandRead (.mem k) s = .ok v t) :
    exec (.bit k) s = .next { t with
      p := bitFlags s.a v s.p, pc := nextPc (.bit k) s, cycles := cyclesOf (.bit k) (operandCrossed (.mem k) s) } := by
  obtain ⟨ha, -, -, hp⟩ := operandRead_registers h
  rw [exec_read_next rfl (by rintro ⟨⟩) h, ← ha, ← hp]
  rfl

/-- Settles O21: the operand is loaded, and the core writes P. -/
theorem compareAndBitWriteFlagsOnly : Obligations.CompareAndBitWriteFlagsOnly := by
  refine ⟨fun b w => ?_, fun m s hm => ?_⟩
  · repeat refine encodesAs_cons rfl rfl rfl ?_
    exact encodesAs_nil
  obtain ⟨v, t, h⟩ := operandRead_answers hm
  obtain ⟨ha, hx, hy, hp⟩ := operandRead_registers h
  refine ⟨v, t, h, ⟨_, comparesTo_compareCore s.a v s.p, ?_⟩, ⟨_, comparesTo_compareCore s.x v s.p, ?_⟩,
    ⟨_, comparesTo_compareCore s.y v s.p, ?_⟩, fun k hk => ?_⟩
  · rw [exec_read_next rfl (by rintro ⟨⟩) h, ← ha, ← hp]
    rfl
  · rw [exec_read_next rfl (by rintro ⟨⟩) h, ← hx, ← hp]
    rfl
  · rw [exec_read_next rfl (by rintro ⟨⟩) h, ← hy, ← hp]
    rfl
  · subst hk
    refine ⟨bitFlags s.a v s.p, ?_, ?_, ?_, ?_, ?_, ?_, bitFlags_keeps_b s.a v s.p, exec_bit h⟩
    all_goals simp [bitFlags, beq_eq_decide]

end Sys2Proof.Machine
end

-- ---- Proofs: Shifts and rotates ----
section
/-! SUPPORT. ASL, LSR, ROL and ROR on A and in memory (R158, R230 to R233). -/

namespace Sys2Proof.Machine

/-- The shift or rotate of each core. -/
def shiftInstr : ShiftKind → ShiftOperand → Instr
  | .asl => .asl
  | .lsr => .lsr
  | .rol => .rol
  | .ror => .ror

theorem eq_shiftInstr {k : ShiftKind} {mk : ShiftOperand → Instr}
    (h : (k, mk) ∈ [(ShiftKind.asl, Instr.asl), (.lsr, Instr.lsr), (.rol, Instr.rol), (.ror, Instr.ror)]) :
    mk = shiftInstr k := by
  simp only [List.mem_cons, Prod.mk.injEq, List.not_mem_nil, or_false] at h
  rcases h with ⟨rfl, rfl⟩ | ⟨rfl, rfl⟩ | ⟨rfl, rfl⟩ | ⟨rfl, rfl⟩ <;> rfl

/-- P as a shift of `m` leaves it (R158). -/
def shiftedFlags (k : ShiftKind) (m p : Byte) : Byte :=
  setZN (shiftResult k m (getFlag .c p)) (putFlag .c (shiftCarry k m) p)

theorem exec_shift_acc (k : ShiftKind) (s : State) : exec (shiftInstr k .acc) s = .next { s with
    a := shiftResult k s.a (getFlag .c s.p), p := shiftedFlags k s.a s.p, pc := s.pc + 1, cycles := 2 } := by
  cases k <;> rfl

theorem exec_shift_mem (k : ShiftKind) {m : AddrMode} {s t u : State} {v : Byte}
    (hread : cpuRead (addressed m s).addr s = .ok v t)
    (hwrite : cpuWrite (addressed m s).addr (shiftResult k v (getFlag .c t.p)) t = .ok () u) :
    exec (shiftInstr k (.mem m)) s = .next { u with
      p := shiftedFlags k v t.p, pc := nextPc (shiftInstr k (.mem m)) s
      cycles := (rowOf (shiftInstr k (.mem m)).opcode).cycles } := by
  cases k <;> exact exec_modify_next rfl (by rintro ⟨⟩) hread hwrite

/-- Settles O24: the core gives the result, the carry and P; in memory the byte is read once and written back once. -/
theorem shiftsAndRotates : Obligations.ShiftsAndRotates := by
  refine ⟨fun b w => ?_, fun k mk m s hk => ?_⟩
  · repeat refine encodesAs_cons rfl rfl rfl ?_
    exact encodesAs_nil
  rw [eq_shiftInstr hk]
  refine ⟨⟨_, _, _, shiftsTo_shiftCore k s.a _, shiftFlags_setZN _ _ s.p, exec_shift_acc k s⟩, fun hm => ?_⟩
  obtain ⟨v, t, hread⟩ := operandRead_answers (m := .mem m) hm
  obtain ⟨-, -, -, hp⟩ := operandRead_registers hread
  obtain ⟨u, hwrite⟩ := cpuWrite_answers_of_read hm hread (shiftResult k v (getFlag .c t.p))
  rw [← hp]
  exact ⟨v, t, _, _, u, _, hread, shiftsTo_shiftCore k v _, hwrite, shiftFlags_setZN _ _ t.p, exec_shift_mem k hread hwrite⟩

end Sys2Proof.Machine
end

-- ---- Proofs: Loads, stores and transfers ----
section
/-! SUPPORT. The loads, the stores and the transfers between registers (R180 to R191). -/

namespace Sys2Proof.Machine

/-! ### Loads -/

/-- A read-class instruction outside the gate, once its operand is loaded: loading has left P, so its effect starts from the old
one (R150, R151). -/
theorem exec_load {i : Instr} {m : ReadOperand} {v : Byte} {s t : State} (hi : readOperand i = some m)
    (hgate : gatedInstr i = false) (h : operandRead m s = .ok v t) :
    exec i s =
      .next ((readEffect i v { t with p := s.p, pc := nextPc i s }).setCycles (cyclesOf i (operandCrossed m s))) := by
  obtain ⟨-, -, -, hp⟩ := operandRead_registers h
  rw [exec_read_next hi (fun hg => absurd hg (ne_true_of_eq_false hgate)) h, ← hp]

/-- Settles O14: the operand is loaded, and SetZN of it writes P. -/
theorem loadsWriteTheirRegister : Obligations.LoadsWriteTheirRegister := by
  refine ⟨fun b w => ?_, fun m s hm => ?_⟩
  · repeat refine encodesAs_cons rfl rfl rfl ?_
    exact encodesAs_nil
  · obtain ⟨v, t, h⟩ := operandRead_answers hm
    exact ⟨v, t, _, h, zeroNegativeOf_setZN v s.p, exec_load rfl rfl h, exec_load rfl rfl h, exec_load rfl rfl h⟩

/-! ### Stores -/

/-- An instruction of the write class, its gate open, whose write goes on (R150, R280). -/
theorem exec_write_next {i : Instr} {m : AddrMode} {s t : State} (hi : writeOperand i = some m)
    (hgate : gatedInstr i = true → s.params.unofficialSet.contains i.opcode = true)
    (h : cpuWrite (addressed m s).addr (storedByte i s) s = .ok () t) :
    exec i s = .next { t with pc := nextPc i s, cycles := i.row.cycles } := by
  rw [exec_write hi, behindGate_open _ hgate, writeOp_next (storedByte_start i s) h]

/-- A store outside the gate, whose write goes on where the claims say that it does: one write of its byte. -/
theorem exec_store {i : Instr} {m : AddrMode} {s : State} (hi : writeOperand i = some m) (hgate : gatedInstr i = false)
    (h : writeAnswers (addressed m s).addr (storedByte i s) s = true) :
    ∃ t, cpuWrite (addressed m s).addr (storedByte i s) s = .ok () t ∧
      exec i s = .next { t with pc := nextPc i s, cycles := i.row.cycles } := by
  obtain ⟨t, ht⟩ := cpuWrite_answers h
  exact ⟨t, ht, exec_write_next hi (fun hg => absurd hg (ne_true_of_eq_false hgate)) ht⟩

/-- Settles O15: each store is one `cpuWrite` of its register, and its cycles are its row's. -/
theorem storesWriteTheEffectiveAddress : Obligations.StoresWriteTheEffectiveAddress := by
  refine ⟨fun b w => ?_, fun m s => ⟨fun ha => ?_, fun hx => ?_, fun hy => ?_⟩⟩
  · repeat refine encodesAs_cons rfl rfl rfl ?_
    exact encodesAs_nil
  · exact exec_store (i := .sta m) rfl rfl ha
  · exact exec_store (i := .stx m) rfl rfl hx
  · exact exec_store (i := .sty m) rfl rfl hy

/-! ### Transfers -/

/-- Settles O17: the opcode's cell has no operand bytes; the register is copied, and SetZN of it writes P except in TXS. -/
theorem transfersCopyRegisters : Obligations.TransfersCopyRegisters := by
  refine fun s rest => ⟨?_, ⟨_, zeroNegativeOf_setZN s.a s.p, ?_, ?_⟩, ⟨_, zeroNegativeOf_setZN s.x s.p, ?_⟩,
    ⟨_, zeroNegativeOf_setZN s.y s.p, ?_⟩, ⟨_, zeroNegativeOf_setZN s.sp s.p, ?_⟩, ?_⟩
  · and_intros <;> exact decode_cons (Nat.zero_le _)
  all_goals rfl

end Sys2Proof.Machine
end

-- ---- Proofs: Logic, increments and decrements ----
section
/-! SUPPORT. AND, ORA and EOR on a loaded operand, and the increments and decrements of memory and of X and Y (R202 to R204, R209
to R214). -/

namespace Sys2Proof.Machine

/-! ### Logic -/

/-- An instruction outside the gate whose effect is to load A, said for the A from before the operand was loaded: the load has
left it (R151). -/
theorem exec_toA {i : Instr} {m : ReadOperand} {s t : State} {v : Byte} {f : Byte → Byte} (hi : readOperand i = some m)
    (hgate : gatedInstr i = false) (hf : ∀ u, readEffect i v u = u.loadA (f u.a)) (h : operandRead m s = .ok v t) :
    exec i s = .next { t with
      a := f s.a, p := setZN (f s.a) s.p, pc := nextPc i s, cycles := cyclesOf i (operandCrossed m s) } := by
  obtain ⟨ha, -⟩ := operandRead_registers h
  rw [exec_load hi hgate h, hf, ← ha]
  rfl

/-- Settles O20: the operand is loaded, and A becomes its combination with the old A. -/
theorem logicWritesTheAccumulator : Obligations.LogicWritesTheAccumulator := by
  refine ⟨fun b w => ?_, fun m s hm => ?_⟩
  · repeat refine encodesAs_cons rfl rfl rfl ?_
    exact encodesAs_nil
  obtain ⟨v, t, h⟩ := operandRead_answers hm
  refine ⟨v, t, h, ⟨_, zeroNegativeOf_setZN (s.a &&& v) s.p, ?_⟩, ⟨_, zeroNegativeOf_setZN (s.a ||| v) s.p, ?_⟩,
    ⟨_, zeroNegativeOf_setZN (s.a ^^^ v) s.p, ?_⟩⟩
  · exact exec_toA (f := (· &&& v)) rfl rfl (fun _ => rfl) h
  · exact exec_toA (f := (· ||| v)) rfl rfl (fun _ => rfl) h
  · exact exec_toA (f := (· ^^^ v)) rfl rfl (fun _ => rfl) h

/-! ### Increments and decrements -/

/-- A decrement adds 255 and wraps (R210, R213, R214). -/
theorem sub_one_toNat (b : Byte) : (b - 1).toNat = (b.toNat + 255) % 256 := by
  rw [BitVec.toNat_sub, Nat.add_comm]
  rfl

/-- Settles O22: the byte is read once, and the byte plus or minus one is written back once and sets Z and N. -/
theorem incrementAndDecrementMemory : Obligations.IncrementAndDecrementMemory := by
  refine ⟨fun b w => ?_, fun m s hm => ?_⟩
  · repeat refine encodesAs_cons rfl rfl rfl ?_
    exact encodesAs_nil
  obtain ⟨v, t, hread⟩ := operandRead_answers (m := .mem m) hm
  obtain ⟨-, -, -, hp⟩ := operandRead_registers hread
  obtain ⟨u, hinc⟩ := cpuWrite_answers_of_read hm hread (v + 1)
  obtain ⟨w, hdec⟩ := cpuWrite_answers_of_read hm hread (v - 1)
  rw [← hp]
  exact ⟨v, t, hread,
    ⟨_, u, _, BitVec.toNat_add v 1, hinc, zeroNegativeOf_setZN _ t.p, exec_modify_next rfl (by rintro ⟨⟩) hread hinc⟩,
    ⟨_, w, _, sub_one_toNat v, hdec, zeroNegativeOf_setZN _ t.p, exec_modify_next rfl (by rintro ⟨⟩) hread hdec⟩⟩

/-- Settles O23: the opcode's cell has no operand bytes; the register wraps, and SetZN of its new value writes P. -/
theorem incrementAndDecrementRegisters : Obligations.IncrementAndDecrementRegisters := by
  refine fun s rest => ⟨?_, ⟨_, _, BitVec.toNat_add s.x 1, zeroNegativeOf_setZN _ s.p, ?_⟩,
    ⟨_, _, BitVec.toNat_add s.y 1, zeroNegativeOf_setZN _ s.p, ?_⟩, ⟨_, _, sub_one_toNat s.x, zeroNegativeOf_setZN _ s.p, ?_⟩,
    ⟨_, _, sub_one_toNat s.y, zeroNegativeOf_setZN _ s.p, ?_⟩⟩
  · and_intros <;> exact decode_cons (Nat.zero_le _)
  all_goals rfl

end Sys2Proof.Machine
end

-- ---- Proofs: Branches and jumps ----
section
/-! SUPPORT. The conditional branches and JMP (R147, R148, R240 to R249). -/

namespace Sys2Proof.Machine

/-! ### Branches -/

/-- The branches: the opcode, the instruction, the flag it tests and the value with which it is taken (R241 to R248). -/
def branchTable : List (Byte × (Byte → Instr) × Flag × Bool) :=
  [(0x10, Instr.bpl, .n, false), (0x30, Instr.bmi, .n, true), (0x50, Instr.bvc, .v, false), (0x70, Instr.bvs, .v, true),
    (0x90, Instr.bcc, .c, false), (0xB0, Instr.bcs, .c, true), (0xD0, Instr.bne, .z, false), (0xF0, Instr.beq, .z, true)]

/-- Each branch is two bytes of two base cycles, and tests its flag alone (R240). -/
theorem exec_branch {op : Byte} {mk : Byte → Instr} {f : Flag} {taken : Bool} (h : (op, mk, f, taken) ∈ branchTable)
    (d : Byte) (s : State) :
    encode (mk d) = [op, d] ∧ (rowOf op).cycles = 2 ∧ exec (mk d) s = branchOp (mk d) d (getFlag f s.p == taken) s := by
  simp only [branchTable, List.mem_cons, Prod.mk.injEq, List.not_mem_nil, or_false] at h
  rcases h with ⟨rfl, rfl, rfl, rfl⟩ | ⟨rfl, rfl, rfl, rfl⟩ | ⟨rfl, rfl, rfl, rfl⟩ | ⟨rfl, rfl, rfl, rfl⟩ |
    ⟨rfl, rfl, rfl, rfl⟩ | ⟨rfl, rfl, rfl, rfl⟩ | ⟨rfl, rfl, rfl, rfl⟩ | ⟨rfl, rfl, rfl, rfl⟩ <;>
  exact ⟨rfl, rfl, by simp only [beq_true, beq_false]; rfl⟩

/-- The displacement counts from the next instruction, in unbounded integers (R147). -/
theorem branchTarget_eq (pc : Word) (d : Byte) :
    branchTarget (pc + 2) d = BitVec.ofInt 16 (pc.toNat + 2 + d.toInt) := by
  rw [BitVec.ofInt_add, BitVec.ofInt_add, BitVec.ofInt_natCast, BitVec.ofNat_toNat, BitVec.setWidth_eq]
  rfl

/-- A taken branch counts one cycle more, and another when it leaves the page (R240). -/
theorem branchCycles_eq (page page' : Nat) : 2 + (1 + bit (decide (page ≠ page'))) = if page = page' then 3 else 4 := by
  by_cases h : page = page' <;> simp [h, bit]

section
variable {i : Instr} {op d : Byte} {s : State} (hbytes : encode i = [op, d]) (hcycles : (rowOf op).cycles = 2)
include hbytes

theorem branch_nextPc : nextPc i s = s.pc + 2 := by
  obtain ⟨-, hoperands⟩ := List.cons.inj hbytes
  rw [nextPc, Instr.size, hoperands]
  rfl

include hcycles

theorem branch_cycles : i.row.cycles = 2 := by
  obtain ⟨rfl, -⟩ := List.cons.inj hbytes
  exact hcycles

theorem branchOp_taken : branchOp i d true s = .next { s with
    pc := BitVec.ofInt 16 (s.pc.toNat + 2 + d.toInt)
    cycles := if (s.pc + 2).toNat / 256 = (BitVec.ofInt 16 (s.pc.toNat + 2 + d.toInt)).toNat / 256 then 3 else 4 } := by
  simp only [branchOp, branch_nextPc hbytes, branchTarget_eq, pageCrossed_eq, complete, branch_cycles hbytes hcycles, if_true,
    branchCycles_eq]
  rfl

theorem branchOp_not_taken : branchOp i d false s = .next { s with pc := s.pc + 2, cycles := 2 } := by
  simp only [branchOp, branch_nextPc hbytes, complete, branch_cycles hbytes hcycles]
  rfl

end

/-- Settles O26: each branch is `branchOp` on its flag, whose two arms are said in integers. -/
theorem conditionalBranches : Obligations.ConditionalBranches := by
  intro op mk f taken d s h
  obtain ⟨hbytes, hcycles, hexec⟩ := exec_branch h d s
  refine ⟨hbytes, fun htaken => ?_, fun hnot => ?_⟩
  · rw [hexec, beq_iff_eq.2 htaken, branchOp_taken hbytes hcycles]
  · rw [hexec, beq_eq_false_iff_ne.2 hnot, branchOp_not_taken hbytes hcycles]

/-! ### Jumps -/

theorem Bus.bind_of_ok {α β : Type} {r : Bus α} {v : α} {s : State} (h : r = .ok v s) (k : α → State → Bus β) :
    r.bind k = k v s := by
  rw [h, Bus.bind_ok]

/-- An instruction of the stack or of a vector whose accesses all go on; its cycles are those of its opcode byte (R152). -/
theorem stacked_next (op : Byte) {i : Instr} {f : State → Bus Unit} {s t u : State} (hop : i.opcode = op)
    (h : f (s.start i) = .ok () t) (hu : t.setCycles (rowOf op).cycles = u) : stacked i f s = .next u := by
  rw [stacked, h, ← hu, ← hop]
  rfl

theorem exec_jmpAbs (w : Word) (s : State) : exec (.jmp (.abs w)) s = .next { s with pc := w, cycles := 3 } :=
  show execJmp (.abs w) s = _ from stacked_next 0x4C rfl rfl rfl

/-- JMP through a pointer whose two reads go on (R148, R249). -/
theorem exec_jmpInd_next {w : Word} {lo hi : Byte} {s t u : State} (hlo : cpuRead w s = .ok lo t)
    (hhi : cpuRead (samePageNext w) t = .ok hi u) :
    exec (.jmp (.ind w)) s = .next { u with pc := mkWord lo hi, cycles := 5 } := by
  have hpointer : readWordBug w (s.start (.jmp (.ind w))) =
      .ok (mkWord lo hi) { u with pc := nextPc (.jmp (.ind w)) s } := by
    rw [readWordBug, cpuRead_start, hlo, Bus.mapState_ok, Bus.bind_ok, cpuRead_pc, hhi]
    rfl
  exact show execJmp (.ind w) s = _ from stacked_next 0x6C rfl (Bus.bind_of_ok hpointer _) rfl

/-- A read that the claims say goes on. -/
theorem cpuRead_of_readAnswers {a : Word} {s : State} (h : readAnswers a s = true) : ∃ v t, cpuRead a s = .ok v t :=
  operandRead_answers (m := .mem (.abs a)) h

/-- Settles O27: both bytes of the pointer are read, the second in the pointer's own page. -/
theorem jumpsAndTheIndirectPageWrap : Obligations.JumpsAndTheIndirectPageWrap := by
  refine fun w s => ⟨rfl, rfl, exec_jmpAbs w s, fun hw hnext => ?_⟩
  rw [← samePageNext_eq] at hnext ⊢
  obtain ⟨lo, s1, hlo⟩ := cpuRead_of_readAnswers hw
  obtain ⟨hparams, -⟩ := cpuRead_ok_fixed hlo
  rw [readAnswers, ← hparams] at hnext
  obtain ⟨hi, s2, hhi⟩ := cpuRead_of_readAnswers hnext
  exact ⟨lo, hi, s1, s2, _, hlo, hhi, mkWord_toNat lo hi, exec_jmpInd_next hlo hhi⟩

end Sys2Proof.Machine
end

-- ---- Proofs: Calls, returns and the stack instructions ----
section
/-! SUPPORT. The instructions that push or pull, and that what is pushed comes back (R250 to R253, R260 to R263, R402, R408). -/

namespace Sys2Proof.Machine

/-! ### What each instruction pushes or pulls -/

section
variable (s : State)

theorem exec_jsr (w : Word) : exec (.jsr w) s = .next { s with
    ram := pushedRam s.ram s.sp [hiByte (s.pc + 2), loByte (s.pc + 2)], sp := s.sp - 2, pc := w, cycles := 6 } := by
  have hlast : nextPc (.jsr w) s - 1 = s.pc + 2 := by
    have hnext : nextPc (.jsr w) s = s.pc + 3 := rfl
    rw [hnext]
    bv_omega
  rw [← hlast]
  exact show execJsr w s = _ from stacked_next 0x20 rfl (Bus.bind_of_ok (push16_eq _ _) _) rfl

theorem exec_rts : exec .rts s = .next { s with
    sp := s.sp + 2
    pc := mkWord (s.ram.read (0x100 + (s.sp + 1).toNat)) (s.ram.read (0x100 + (s.sp + 2).toNat)) + 1
    cycles := 6 } :=
  show execRts s = _ from stacked_next 0x60 rfl (Bus.bind_of_ok (pop16_eq _) _) rfl

theorem exec_brk : exec .brk s = .next { s with
    ram := entryRam s.ram s.sp (s.pc + 2) (statusPushedBySoftware s.p)
    sp := s.sp - 3
    p := putFlag .i true s.p
    pc := mkWord (s.cart.cpuRead 0xFFFE) (s.cart.cpuRead 0xFFFF)
    cycles := 7 } :=
  show execBrk s = _ from stacked_next 0x00 rfl (enterHandler_eq _ _ (by decide) (by decide) _) rfl

theorem exec_rti : exec .rti s = .next { s with
    sp := s.sp + 3
    p := statusFromByte (s.ram.read (0x100 + (s.sp + 1).toNat))
    pc := mkWord (s.ram.read (0x100 + (s.sp + 2).toNat)) (s.ram.read (0x100 + (s.sp + 3).toNat))
    cycles := 6 } :=
  show execRti s = _ from stacked_next 0x40 rfl (returnFromInterrupt_eq _) rfl

theorem exec_pha : exec .pha s = .next { s with
    ram := s.ram.write (0x100 + s.sp.toNat) s.a, sp := s.sp - 1, pc := s.pc + 1, cycles := 3 } :=
  show execPha s = _ from stacked_next 0x48 rfl (push_eq _ _) rfl

theorem exec_php : exec .php s = .next { s with
    ram := s.ram.write (0x100 + s.sp.toNat) (statusPushedBySoftware s.p), sp := s.sp - 1, pc := s.pc + 1, cycles := 3 } :=
  show execPhp s = _ from stacked_next 0x08 rfl (push_eq _ _) rfl

theorem exec_pla : exec .pla s = .next { s with
    a := s.ram.read (0x100 + (s.sp + 1).toNat), p := setZN (s.ram.read (0x100 + (s.sp + 1).toNat)) s.p
    sp := s.sp + 1, pc := s.pc + 1, cycles := 4 } :=
  show execPla s = _ from stacked_next 0x68 rfl (Bus.bind_of_ok (pop_eq _) _) rfl

theorem exec_plp : exec .plp s = .next { s with
    p := statusFromByte (s.ram.read (0x100 + (s.sp + 1).toNat)), sp := s.sp + 1, pc := s.pc + 1, cycles := 4 } :=
  show execPlp s = _ from stacked_next 0x28 rfl (Bus.bind_of_ok (pop_eq _) _) rfl

end

/-- Settles O28: JSR is one 16-bit push of the address of its last byte, RTS one 16-bit pull. -/
theorem subroutineCallAndReturn : Obligations.SubroutineCallAndReturn :=
  fun w s => ⟨rfl, rfl, exec_jsr s w, exec_rts s⟩

/-- Settles O29: BRK enters its handler, with I alone changed in P, and RTI is the return from one. -/
theorem softwareInterruptAndReturn : Obligations.SoftwareInterruptAndReturn :=
  fun s => ⟨⟨0x00, rfl⟩, fun _ _ => decode_cons (Nat.zero_le _), rfl, ⟨_, onlyFlag_putFlag .i true s.p, exec_brk s⟩, exec_rti s⟩

/-! ### What is pushed comes back -/

/-- A status byte with legal bits 4 and 5 comes back from the copy that PHP and BRK push (R23, R253, R261). -/
theorem statusFromByte_pushedBySoftware {p : Byte} (h : p &&& 0x30 = 0x20) :
    statusFromByte (statusPushedBySoftware p) = p := by
  revert p; decide +kernel

/-- A status byte with legal bits 4 and 5 comes back from the copy that interrupt service pushes (R23, R402). -/
theorem statusFromByte_pushedByInterrupt {p : Byte} (h : p &&& 0x30 = 0x20) :
    statusFromByte (statusPushedByInterrupt p) = p := by
  revert p; decide +kernel

/-- The bytes of an entry to a handler, in the order in which they are pushed (R253, R402). -/
theorem entryRam_eq (m : Memory) (sp : Byte) (returnTo : Word) (status : Byte) :
    entryRam m sp returnTo status = pushedRam m sp [hiByte returnTo, loByte returnTo, status] := by
  have hsp : sp - 2 = sp - 1 - 1 := by bv_omega
  rw [entryRam, hsp]
  rfl

section
variable {s : State} {sp : Byte} {m : Memory} (hm : m.wf 0x800 = true)
include hm

/-- A pushed byte is read in its slot, which is given as the pull finds it. -/
theorem pushedRam_read {bs : List Byte} {k : Nat} {b slot : Byte} (hlen : bs.length ≤ 256) (hb : bs[k]? = some b)
    (hslot : slot = sp - BitVec.ofNat 8 k) : (pushedRam m sp bs).read (0x100 + slot.toNat) = b := by
  obtain ⟨hk, -⟩ := List.getElem?_eq_some_iff.1 hb
  subst hslot
  exact Option.some.inj ((pushedRam_read_slot hm (by decide) hk (by omega)).trans hb)

/-- RTS where JSR has pushed (R250, R251). -/
theorem exec_rts_pushed {w : Word} (hram : s.ram = pushedRam m sp [hiByte w, loByte w]) (hsp : s.sp = sp - 2) :
    exec .rts s = .next { s with sp := sp, pc := w + 1, cycles := 6 } := by
  have hlo : s.ram.read (0x100 + (s.sp + 1).toNat) = loByte w :=
    hram ▸ pushedRam_read hm (k := 1) (by simp) rfl (by bv_omega)
  have hhi : s.ram.read (0x100 + (s.sp + 2).toNat) = hiByte w :=
    hram ▸ pushedRam_read hm (k := 0) (by simp) rfl (by bv_omega)
  have hback : s.sp + 2 = sp := by bv_omega
  rw [exec_rts, hlo, hhi, mkWord_loByte_hiByte, hback]

/-- RTI where an entry to a handler has pushed (R252, R408). -/
theorem exec_rti_entered {w : Word} {status : Byte} (hram : s.ram = entryRam m sp w status) (hsp : s.sp = sp - 3) :
    exec .rti s = .next { s with sp := sp, p := statusFromByte status, pc := w, cycles := 6 } := by
  rw [entryRam_eq] at hram
  have hstatus : s.ram.read (0x100 + (s.sp + 1).toNat) = status :=
    hram ▸ pushedRam_read hm (k := 2) (by simp) rfl (by bv_omega)
  have hlo : s.ram.read (0x100 + (s.sp + 2).toNat) = loByte w :=
    hram ▸ pushedRam_read hm (k := 1) (by simp) rfl (by bv_omega)
  have hhi : s.ram.read (0x100 + (s.sp + 3).toNat) = hiByte w :=
    hram ▸ pushedRam_read hm (k := 0) (by simp) rfl (by bv_omega)
  have hback : s.sp + 3 = sp := by bv_omega
  rw [exec_rti, hstatus, hlo, hhi, mkWord_loByte_hiByte, hback]

end

/-- Settles O30: each pull finds its bytes in the slots to which they were pushed. -/
theorem pushedStateComesBack : Obligations.PushedStateComesBack := by
  intro w k s hs hp
  obtain ⟨hram, -⟩ := (memoriesWf_iff s).1 hs
  rw [statusWf_iff] at hp
  have hbyte (v : Byte) : (s.ram.write (0x100 + s.sp.toNat) v).read (0x100 + (s.sp - 1 + 1).toNat) = v := by
    rw [BitVec.sub_add_cancel, Memory.read_write_same hram]
  refine ⟨⟨_, _, exec_jsr s w, exec_rts_pushed hram rfl rfl, ?_, rfl, rfl, rfl, rfl, rfl⟩,
    ⟨_, _, serviceInterrupt_eq k s, exec_rti_entered hram rfl rfl, rfl, rfl, rfl, rfl, rfl, ?_⟩,
    ⟨_, _, exec_brk s, exec_rti_entered hram rfl rfl, rfl, rfl, rfl, rfl, rfl, ?_⟩,
    ⟨_, _, exec_pha s, exec_pla _, hbyte s.a, BitVec.sub_add_cancel _ _⟩,
    ⟨_, _, exec_php s, exec_plp _, ?_, BitVec.sub_add_cancel _ _⟩⟩
  · exact BitVec.add_assoc s.pc 2 1
  · exact statusFromByte_pushedByInterrupt hp
  · exact statusFromByte_pushedBySoftware hp
  · exact (congrArg statusFromByte (hbyte _)).trans (statusFromByte_pushedBySoftware hp)

end Sys2Proof.Machine
end

-- ---- Proofs: Single-byte instructions of the stack and of the flags ----
section
/-! SUPPORT. PHA, PHP, PLA and PLP, the flag instructions and NOP (R260 to R271). -/

namespace Sys2Proof.Machine

/-- Settles O31: the pushes and pulls of `exec_pha` to `exec_plp`; SetZN of the pulled byte writes P in PLA. -/
theorem stackInstructions : Obligations.StackInstructions :=
  fun s => ⟨rfl, rfl, rfl, rfl, exec_pha s, exec_php s, ⟨_, _, rfl, zeroNegativeOf_setZN _ s.p, exec_pla s⟩, exec_plp s⟩

/-- The flag instructions: the opcode, the instruction, the flag it writes and the value (R264 to R270). -/
def flagTable : List (Byte × Instr × Flag × Bool) :=
  [(0x18, .clc, .c, false), (0x38, .sec, .c, true), (0x58, .cli, .i, false), (0x78, .sei, .i, true), (0xD8, .cld, .d, false),
    (0xF8, .sed, .d, true), (0xB8, .clv, .v, false)]

/-- Each flag instruction is one byte of two cycles, and writes its flag alone. -/
theorem exec_flag {op : Byte} {i : Instr} {f : Flag} {b : Bool} (h : (op, i, f, b) ∈ flagTable) (s : State) :
    operandBytes op = 0 ∧ decodeOp op 0 0 = i ∧ exec i s = .next { s with p := putFlag f b s.p, pc := s.pc + 1, cycles := 2 } := by
  simp only [flagTable, List.mem_cons, Prod.mk.injEq, List.not_mem_nil, or_false] at h
  rcases h with ⟨rfl, rfl, rfl, rfl⟩ | ⟨rfl, rfl, rfl, rfl⟩ | ⟨rfl, rfl, rfl, rfl⟩ | ⟨rfl, rfl, rfl, rfl⟩ |
    ⟨rfl, rfl, rfl, rfl⟩ | ⟨rfl, rfl, rfl, rfl⟩ | ⟨rfl, rfl, rfl, rfl⟩ <;>
  exact ⟨rfl, rfl, rfl⟩

/-- An opcode without operand bytes decodes to its cell, whatever follows it (R120). -/
theorem decode_cons_noOperand {op : Byte} (h : operandBytes op = 0) (rest : List Byte) :
    decode (op :: rest) = .ok (decodeOp op 0 0) := by
  rw [decode_cons (h ▸ Nat.zero_le _), decodeOp_unread, h]
  rfl

/-- Settles O32: each flag instruction is one flag write. -/
theorem flagInstructionsWriteOneFlag : Obligations.FlagInstructionsWriteOneFlag := by
  intro op i f b s rest h
  obtain ⟨hbytes, rfl, hexec⟩ := exec_flag h s
  exact ⟨decode_cons_noOperand hbytes rest, ⟨_, onlyFlag_putFlag f b s.p, hexec⟩, decode_cons_noOperand rfl rest, rfl⟩

end Sys2Proof.Machine
end

-- ---- Proofs: Halting and excluded opcodes ----
section
/-! SUPPORT. The opcodes that halt the CPU: the 25 of class halting, and those of class unofficial outside UNOFFICIAL_SET (R124,
R280, R291, R401). -/

namespace Sys2Proof.Machine

/-! ### Which opcodes halt -/

/-- A listed halting opcode has no operand bytes to decode, and its row is of class halting (R124, R291). -/
theorem haltingInstrs_row : ∀ p ∈ haltingInstrs,
    operandBytes p.1 = 0 ∧ decodeOp p.1 0 0 = p.2 ∧ (rowOf p.2.opcode).cls = .halting := by
  decide +kernel

/-- The listed unofficial opcodes are of class unofficial (R124, R281 to R290). -/
theorem unofficialOpcodes_row : ∀ op ∈ unofficialOpcodes, (rowOf op).cls = .unofficial := by
  decide +kernel

theorem haltsOn_of_haltingInstrs {op : Byte} {i : Instr} (h : (op, i) ∈ haltingInstrs) (p : Params) :
    haltsOn i.opcode p = true := by
  obtain ⟨-, -, hcls⟩ := haltingInstrs_row _ h
  rw [haltsOn, hcls]

theorem haltsOn_of_excluded {op : Byte} {p : Params} (h : unofficialOpcodes.contains op = true)
    (hset : p.unofficialSet.contains op = false) : haltsOn op p = true := by
  rw [haltsOn, unofficialOpcodes_row op (List.contains_iff_mem.1 h), hset]
  rfl

/-! ### After the halt -/

/-- Once the CPU has halted, the driver loop's turn stops the machine (R401, R406). -/
theorem step_of_halted {s : State} (hhost : s.host = []) (hrunning : s.running = false) :
    step s = .fault (.halted s.haltCause) := by
  rw [step, hhost, iterate, stopReason, if_pos hrunning]

/-- Settles O7: a well-formed instruction whose opcode halts answers the halting tick, which leaves a CPU that no longer runs. -/
theorem opcodesThatHaltTheCpu : Obligations.OpcodesThatHaltTheCpu := by
  refine ⟨fun rest p hp => ?_, fun i s hwf h => ?_⟩
  · obtain ⟨hbytes, hdecode, -⟩ := haltingInstrs_row p hp
    rw [decode_cons_noOperand hbytes, hdecode]
  · have hhalts : haltsOn i.opcode s.params = true := by
      rcases h with ⟨op, hmem⟩ | ⟨hunofficial, hset⟩
      · exact haltsOn_of_haltingInstrs hmem s.params
      · exact haltsOn_of_excluded hunofficial hset
    exact ⟨_, exec_wellFormed_halts hwf hhalts, rfl, fun hhost => step_of_halted hhost rfl⟩

end Sys2Proof.Machine
end

-- ---- Proofs: Unofficial opcodes ----
section
/-! SUPPORT. The unofficial opcodes that UNOFFICIAL_SET holds (R281 to R290). -/

namespace Sys2Proof.Machine

/-! ### The unofficial NOPs, LAX and SAX -/

/-- The unofficial NOPs without a memory operand take 2 cycles (R281). -/
theorem nopCycles_eq_two : ∀ op ∈ nopImpliedOpcodes ++ nopImmediateOpcodes, (rowOf op).cycles = 2 := by
  decide +kernel

section
variable {op : Byte} {s : State} (hopen : s.params.unofficialSet.contains op = true)
include hopen

/-- An implied unofficial NOP passes over its byte (R281). -/
theorem exec_nopImplied (hop : nopImpliedOpcodes.contains op = true) :
    exec (.nopUnofficial op .implied) s = .next { s with pc := s.pc + 1, cycles := 2 } := by
  have hcycles := nopCycles_eq_two op (List.mem_append_left _ (List.contains_iff_mem.1 hop))
  calc exec (.nopUnofficial op .implied) s
      = register (.nopUnofficial op .implied) id s := gated_open _ hopen
    _ = .next { s with pc := s.pc + 1, cycles := (rowOf op).cycles } := rfl
    _ = .next { s with pc := s.pc + 1, cycles := 2 } := by rw [hcycles]

/-- An unofficial NOP discards the operand it has loaded (R281). -/
theorem exec_nopOperand {n : NopOperand} {m : ReadOperand} {v : Byte} {t : State}
    (hi : readOperand (.nopUnofficial op n) = some m) (h : operandRead m s = .ok v t) :
    exec (.nopUnofficial op n) s = .next { t with
      pc := nextPc (.nopUnofficial op n) s, cycles := cyclesOf (.nopUnofficial op n) (operandCrossed m s) } := by
  rw [exec_read_next hi (fun _ => hopen) h]
  rfl

/-- An immediate unofficial NOP passes over its byte and its operand byte (R281). -/
theorem exec_nopImmediate (hop : nopImmediateOpcodes.contains op = true) (b : Byte) :
    exec (.nopUnofficial op (.imm b)) s = .next { s with pc := s.pc + 2, cycles := 2 } := by
  have hcycles : cyclesOf (.nopUnofficial op (.imm b)) false = 2 := by
    rw [cyclesOf, pagePenalty, if_neg (by simp)]
    exact nopCycles_eq_two op (List.mem_append_right _ (List.contains_iff_mem.1 hop))
  rw [exec_nopOperand hopen (m := .imm b) rfl rfl, operandCrossed, hcycles]
  rfl

end

/-- LAX loads A and X with one byte (R282). -/
theorem exec_lax {m : AddrMode} {s t : State} {v : Byte} (hopen : s.params.unofficialSet.contains (Instr.lax m).opcode = true)
    (h : operandRead (.mem m) s = .ok v t) : exec (.lax m) s = .next { t with
      a := v, x := v, p := setZN v s.p, pc := nextPc (.lax m) s, cycles := cyclesOf (.lax m) (addressed m s).crossed } := by
  obtain ⟨-, -, -, hp⟩ := operandRead_registers h
  rw [exec_read_next rfl (fun _ => hopen) h, ← hp]
  rfl

/-- Settles O33: behind the open gate a NOP and LAX are one load, an implied NOP none, and SAX one write of A AND X. -/
theorem unofficialNopLaxAndSax : Obligations.UnofficialNopLaxAndSax := by
  refine ⟨fun b w => ?_, fun op b m s => ⟨fun hop hopen => exec_nopImplied hopen hop,
    fun hop hopen => exec_nopImmediate hopen hop b, fun _ hopen hm => ?_, fun _ hopen hm => ?_, fun _ hopen hm => ?_⟩⟩
  · repeat refine encodesAs_cons rfl rfl rfl ?_
    exact encodesAs_nil
  · obtain ⟨v, t, h⟩ := operandRead_answers (m := .mem m) hm
    exact ⟨v, t, h, exec_nopOperand hopen rfl h⟩
  · obtain ⟨v, t, h⟩ := operandRead_answers (m := .mem m) hm
    exact ⟨v, t, _, h, zeroNegativeOf_setZN v s.p, exec_lax hopen h⟩
  · obtain ⟨t, h⟩ := cpuWrite_answers hm
    exact ⟨t, h, exec_write_next rfl (fun _ => hopen) h⟩

/-! ### Writes leave A -/

theorem cpuRead_a (a : Word) (s : State) : (cpuRead a s).state.a = s.a := by
  rw [cpuRead_effects]
  rfl

theorem ppuPortWrite_a (p : Nat) (d : Byte) (s : State) : (ppuPortWrite p d s).a = s.a := by
  unfold ppuPortWrite
  split
  case h_8 =>
    unfold dataWrite ppuWrite
    dsimp only
    split
    · rfl
    split <;> rfl
  all_goals rfl

theorem oamDmaFrom_a (d : Byte) (n i : Nat) (s : State) : (oamDmaFrom d n i s).state.a = s.a := by
  induction n generalizing i s with
  | zero => rfl
  | succ n ih =>
    have hread := cpuRead_a (mkWord (BitVec.ofNat 8 i) d) s
    rw [oamDmaFrom]
    generalize cpuRead (mkWord (BitVec.ofNat 8 i) d) s = r at hread ⊢
    cases r with
    | ok b u => exact (ih (i + 1) (u.oamPut i b)).trans hread
    | stop u => exact hread

/-- A write, with the transfer that it may start, leaves A (R60, R320). -/
theorem cpuWrite_a (a : Word) (d : Byte) (s : State) : (cpuWrite a d s).state.a = s.a := by
  unfold cpuWrite
  split
  · rfl
  split
  · exact ppuPortWrite_a _ d s
  split
  · exact oamDmaFrom_a d 256 0 s
  split
  · rfl
  split
  · rfl
  · unfold illegalWrite
    split <;> rfl

/-! ### The combined read-modify-writes -/

section
variable {m : AddrMode} {s t : State} {v : Byte} (hm : readAnswers (addressed m s).addr s = true)
  (hread : cpuRead (addressed m s).addr s = .ok v t)
include hm hread

/-- The write back goes on, and A is still what it was before the instruction. -/
theorem writeBack_answers (r : Byte) : ∃ u, cpuWrite (addressed m s).addr r t = .ok () u ∧ u.a = s.a := by
  obtain ⟨u, hwrite⟩ := cpuWrite_answers_of_read hm hread r
  have hwriteA := cpuWrite_a (addressed m s).addr r t
  have hreadA := cpuRead_a (addressed m s).addr s
  rw [hwrite] at hwriteA
  rw [hread] at hreadA
  exact ⟨u, hwrite, hwriteA.trans hreadA⟩

/-- SLO, RLA and SRE: a shift in memory, whose result `f` then combines with A (R287 to R289). -/
theorem exec_shiftThenCombine {i : Instr} {k : ShiftKind} {f : Byte → Byte → Byte} (hi : modifyOperand i = some m)
    (hshift : ∀ u, modified i v u = u.shiftCore k v) (hcombine : ∀ r u, afterModify i r u = u.loadA (f u.a r))
    (hopen : s.params.unofficialSet.contains i.opcode = true) :
    ∃ r out s2 p', shiftsTo k v (getFlag .c s.p) r out ∧ cpuWrite (addressed m s).addr r t = .ok () s2 ∧
      shiftFlags (f s.a r) out s.p p' ∧
      exec i s = .next { s2 with a := f s.a r, p := p', pc := nextPc i s, cycles := (rowOf i.opcode).cycles } := by
  obtain ⟨-, -, -, hp⟩ := operandRead_registers (m := .mem m) hread
  obtain ⟨u, hwrite, ha⟩ := writeBack_answers hm hread (shiftResult k v (getFlag .c t.p))
  rw [← ha, ← hp]
  refine ⟨_, _, u, _, shiftsTo_shiftCore k v _, hwrite, shiftFlags_setZN _ _ t.p, ?_⟩
  rw [exec_modify_next hi (fun _ => hopen) hread (by rw [hshift]; exact hwrite), hshift, hcombine]
  rfl

end

/-- Settles O34: behind the open gate each is one read and one write of the changed byte, and then its core on the A and P that
the accesses have left. -/
theorem unofficialReadModifyWrite : Obligations.UnofficialReadModifyWrite := by
  refine ⟨fun b w => ?_, fun m s hm => ?_⟩
  · repeat refine encodesAs_cons rfl rfl rfl ?_
    exact encodesAs_nil
  obtain ⟨v, t, hread⟩ := operandRead_answers (m := .mem m) hm
  obtain ⟨-, -, -, hp⟩ := operandRead_registers hread
  refine ⟨v, t, hread, ?dcp, ?isb, ?slo, ?rla, ?sre, ?rra⟩
  case dcp =>
    intro hopen
    obtain ⟨u, hwrite, ha⟩ := writeBack_answers hm hread (v - 1)
    rw [← ha, ← hp]
    exact ⟨_, u, _, sub_one_toNat v, hwrite, comparesTo_compareCore u.a _ t.p,
      exec_modify_next rfl (fun _ => hopen) hread hwrite⟩
  case isb =>
    intro hopen
    obtain ⟨u, hwrite, ha⟩ := writeBack_answers hm hread (v + 1)
    rw [← ha, ← hp]
    exact ⟨_, u, _, _, BitVec.toNat_add v 1, hwrite, addsTo_addCore u.a _ t.p,
      exec_modify_next rfl (fun _ => hopen) hread hwrite⟩
  case slo => exact exec_shiftThenCombine hm hread (f := (· ||| ·)) rfl (fun _ => rfl) (fun _ _ => rfl)
  case rla => exact exec_shiftThenCombine hm hread (f := (· &&& ·)) rfl (fun _ => rfl) (fun _ _ => rfl)
  case sre => exact exec_shiftThenCombine hm hread (f := (· ^^^ ·)) rfl (fun _ => rfl) (fun _ _ => rfl)
  case rra =>
    intro hopen
    obtain ⟨u, hwrite, ha⟩ := writeBack_answers hm hread (shiftResult .ror v (getFlag .c t.p))
    rw [← ha, ← hp]
    exact ⟨_, _, u, _, _, shiftsTo_shiftCore .ror v _, hwrite, addsTo_addCore u.a _ _,
      exec_modify_next rfl (fun _ => hopen) hread hwrite⟩

end Sys2Proof.Machine
end

-- ---- Proofs: The PPU's ports and the controller port ----
section
/-! SUPPORT. The eight ports of the PPU, bit by bit, and the controller port (R302 to R309, R330). -/

namespace Sys2Proof.Machine

/-! ### What a port write leaves in t

The masks and the shifts are literals, so each lemma is settled at each of t's 15 bits. -/

section
variable (d : Byte) (q : Ppu) {k : Nat} (hk : k < 15)
include hk

theorem controlWrite_t : (q.controlWrite d).t.getLsbD k =
    if k = 10 then d.getLsbD 0 else if k = 11 then d.getLsbD 1 else q.t.getLsbD k := by
  rw [Ppu.controlWrite]
  interval_cases k <;> simp

theorem scrollWrite_first_t (hw : q.w = false) : (q.scrollWrite d).t.getLsbD k =
    if k < 5 then d.getLsbD (k + 3) else q.t.getLsbD k := by
  rw [Ppu.scrollWrite, if_pos hw]
  interval_cases k <;> simp

theorem scrollWrite_second_t (hw : q.w = true) : (q.scrollWrite d).t.getLsbD k =
    if 12 ≤ k then d.getLsbD (k - 12) else if 5 ≤ k ∧ k ≤ 9 then d.getLsbD (k - 2) else q.t.getLsbD k := by
  rw [Ppu.scrollWrite, if_neg (by simp [hw])]
  interval_cases k <;> simp

theorem addressWrite_first_t (hw : q.w = false) : (q.addressWrite d).t.getLsbD k =
    if k = 14 then false else if 8 ≤ k then d.getLsbD (k - 8) else q.t.getLsbD k := by
  rw [Ppu.addressWrite, if_pos hw]
  interval_cases k <;> simp

theorem addressWrite_second_t (hw : q.w = true) : (q.addressWrite d).t.getLsbD k =
    if k < 8 then d.getLsbD k else q.t.getLsbD k := by
  rw [Ppu.addressWrite, if_neg (by simp [hw])]
  interval_cases k <;> simp

end

/-- A port write changes the PPU alone, except through the data port (R301). -/
theorem cpuWrite_setPpu {a : Word} (hlo : 0x2000 ≤ a.toNat) (hhi : a.toNat ≤ 0x3FFF) {p : Nat} (hp : a.toNat % 8 = p)
    {d : Byte} {s : State} {q : Ppu} (hq : ppuPortWrite p d s = s.setPpu q) : cpuWrite a d s = .ok () { s with ppu := q } := by
  rw [cpuWrite_port hlo hhi, hp, hq]
  rfl

/-- The first scroll write puts the three low bits of the byte into fine X (R305). -/
theorem lowBits_toNat (d : Byte) : ((d &&& 0x07).setWidth 3).toNat = d.toNat % 8 := by
  revert d; decide +kernel

/-- Settles O41: port by port, with t's bits from the lemmas above. -/
theorem ppuPortWrites : Obligations.PpuPortWrites := by
  intro a d s hlo hhi
  refine ⟨fun hp => ⟨_, fun k hk => controlWrite_t d s.ppu hk, cpuWrite_setPpu hlo hhi hp rfl⟩,
    fun hp => cpuWrite_setPpu hlo hhi hp rfl, fun hp => cpuWrite_setPpu hlo hhi hp rfl,
    fun hp => cpuWrite_setPpu hlo hhi hp rfl, fun hp => cpuWrite_setPpu hlo hhi hp rfl,
    fun hp hw => ⟨_, _, fun k hk => scrollWrite_first_t d s.ppu hk hw, lowBits_toNat d, ?_⟩,
    fun hp hw => ⟨_, fun k hk => scrollWrite_second_t d s.ppu hk hw, ?_⟩,
    fun hp hw => ⟨_, fun k hk => addressWrite_first_t d s.ppu hk hw, ?_⟩,
    fun hp hw => ⟨_, fun k hk => addressWrite_second_t d s.ppu hk hw, ?_⟩⟩
  all_goals
    refine cpuWrite_setPpu hlo hhi hp (congrArg s.setPpu ?_)
    simp [Ppu.scrollWrite, Ppu.addressWrite, hw]

/-! ### The status and data ports -/

/-- The three flags stand in the top bits of the status byte (R304). -/
theorem statusByte_flags (openBus : Byte) (q : Ppu) : (q.statusByte openBus).getLsbD 7 = q.vblank ∧
    (q.statusByte openBus).getLsbD 6 = q.sprite0Hit ∧ (q.statusByte openBus).getLsbD 5 = q.spriteOverflow := by
  unfold Ppu.statusByte
  cases q.vblank <;> cases q.sprite0Hit <;> cases q.spriteOverflow <;> simp [bit]

/-- The PPU bus is 14 bits wide (R35). -/
theorem busAddr_toNat (q : Ppu) : q.busAddr.toNat = q.v.toNat % 0x4000 := by
  have := q.v.isLt
  rw [Ppu.busAddr, BitVec.toNat_and, BitVec.toNat_setWidth, Nat.mod_eq_of_lt (by omega)]
  exact Nat.and_two_pow_sub_one_eq_mod q.v.toNat 14

theorem stepV_toNat (q : Ppu) : q.stepV.v.toNat = (q.v.toNat + (if q.ctrl.getLsbD 2 then 32 else 1)) % 0x8000 := by
  rw [Ppu.stepV, BitVec.toNat_add]
  split <;> rfl

/-- A write on the PPU bus leaves the PPU's registers (R80). -/
theorem ppuWrite_ppu (a : Word) (d : Byte) (s : State) : (ppuWrite a d s).ppu = s.ppu := by
  unfold ppuWrite
  dsimp only
  split
  · rfl
  split <;> rfl

/-- Below the palette a data read gives the buffered byte (R307). -/
theorem dataRead_buffered {s : State} (h : s.ppu.busAddr.toNat < 0x3F00) : dataRead s = (s.ppu.readBuffer,
    { s with ppu := { s.ppu with v := s.ppu.stepV.v, readBuffer := ppuRead s.ppu.busAddr s } }) := by
  simp only [dataRead, if_pos h]
  rfl

/-- In the palette a data read gives the byte itself, and buffers the nametable byte under it (R307). -/
theorem dataRead_palette {s : State} (h : 0x3F00 ≤ s.ppu.busAddr.toNat) : dataRead s = (ppuRead s.ppu.busAddr s,
    { s with ppu := { s.ppu with v := s.ppu.stepV.v, readBuffer := ppuRead (s.ppu.busAddr - 0x1000) s } }) := by
  simp only [dataRead, if_neg (Nat.not_lt.2 h)]
  rfl

theorem dataWrite_eq (d : Byte) (s : State) :
    dataWrite d s = { ppuWrite s.ppu.busAddr d s with ppu := { s.ppu with v := s.ppu.stepV.v } } := by
  simp only [dataWrite, ppuWrite_ppu]
  rfl

/-- Settles O42: each port is one case of the router's port read or write. -/
theorem statusAndDataPorts : Obligations.StatusAndDataPorts := by
  intro a d s hlo hhi
  refine ⟨fun hp => ?status, fun hp => ⟨s.ppu.stepV.v, s.ppu.busAddr, stepV_toNat s.ppu, busAddr_toNat s.ppu,
    fun hn => ?buffered, fun hn => ?palette, ?write⟩⟩
  case status =>
    obtain ⟨hvblank, hhit, hoverflow⟩ := statusByte_flags (Config.ppuOpenBus s.draws) s.ppu
    refine ⟨_, hvblank, hhit, hoverflow, ?_⟩
    rw [cpuRead_port hlo hhi, hp]
    rfl
  case buffered =>
    rw [cpuRead_port hlo hhi, hp, ppuPortRead, dataRead_buffered hn]
  case palette =>
    rw [cpuRead_port hlo hhi, hp, ppuPortRead, dataRead_palette hn]
  case write =>
    rw [cpuWrite_port hlo hhi, hp, ← dataWrite_eq]
    rfl

/-! ### The controller port -/

/-- The bit that a controller read gives (R330). -/
theorem selectedButton_toNat (b : Byte) (i : BitVec 3) : ((b >>> i.toNat) &&& 1).toNat = bit (b.getLsbD i.toNat) := by
  revert b i; decide +kernel

/-- The strobe is the low bit of the byte written (R330). -/
theorem strobe_toNat (d : Byte) : ((d &&& 1).setWidth 1).toNat = d.toNat % 2 := by
  revert d; decide +kernel

theorem strobe_high_iff (d : Byte) : (d &&& 1).setWidth 1 = (1 : BitVec 1) ↔ d.toNat % 2 = 1 := by
  rw [← strobe_toNat, ← BitVec.toNat_inj]
  rfl

/-- Settles O44: the router's case for 0x4016, with the selected bit and the strobe as numbers. -/
theorem controllerPort : Obligations.ControllerPort := by
  intro d s
  refine ⟨⟨_, selectedButton_toNat (Config.buttons s.draws) s.index, rfl⟩, ⟨_, strobe_toNat d, ?_⟩⟩
  simp only [← strobe_high_iff]
  rfl

end Sys2Proof.Machine
end

-- ---- Proofs: OAM-DMA ----
section
/-! SUPPORT. The OAM-DMA transfer, read by read (R63, R320). -/

namespace Sys2Proof.Machine

/-- The state after one read of the transfer and the byte that it puts into OAM. -/
def dmaStep (d : Byte) (k : Nat) (s : State) : State :=
  match cpuRead (mkWord (BitVec.ofNat 8 k) d) s with
  | .ok b u => u.oamPut k b
  | .stop u => u

/-- The state after the first `k` bytes of the transfer from page `d`. -/
def dmaStates (d : Byte) (s : State) : Nat → State
  | 0 => s
  | k + 1 => dmaStep d k (dmaStates d s k)

/-- The reads of a transfer go on: its page is in a region, or the policy is record_and_continue (R66, R320). -/
def pageAnswers (d : Byte) (s : State) : Prop :=
  d.toNat ≤ 0x3F ∨ 0x60 ≤ d.toNat ∨ s.params.busFaultPolicy = .recordAndContinue

theorem dmaStep_of_read {d b : Byte} {k : Nat} {s u : State} (h : cpuRead (mkWord (BitVec.ofNat 8 k) d) s = .ok b u) :
    dmaStep d k s = u.oamPut k b := by
  rw [dmaStep, h]

/-- A read changes neither the launch parameters nor the OAM address, so a step of the transfer does not (R67, R320). -/
theorem dmaStep_fixed (d : Byte) (k : Nat) (s : State) :
    (dmaStep d k s).params = s.params ∧ (dmaStep d k s).ppu.oamAddr = s.ppu.oamAddr := by
  have heffects := cpuRead_effects (mkWord (BitVec.ofNat 8 k) d) s
  unfold dmaStep
  split
  case h_1 b u h | h_2 u h =>
    rw [h] at heffects
    replace heffects : u = s.withReadEffects u := heffects
    rw [heffects]
    exact ⟨rfl, rfl⟩

theorem dmaStates_fixed (d : Byte) (s : State) (k : Nat) :
    (dmaStates d s k).params = s.params ∧ (dmaStates d s k).ppu.oamAddr = s.ppu.oamAddr := by
  induction k with
  | zero => exact ⟨rfl, rfl⟩
  | succ k ih =>
    obtain ⟨hparams, haddr⟩ := dmaStep_fixed d k (dmaStates d s k)
    exact ⟨hparams.trans ih.1, haddr.trans ih.2⟩

/-- Byte `k` of page `d` (R320). -/
theorem mkWord_ofNat {k : Nat} (hk : k < 256) (d : Byte) : mkWord (BitVec.ofNat 8 k) d = BitVec.ofNat 16 (256 * d.toNat + k) := by
  have := d.isLt
  apply BitVec.eq_of_toNat_eq
  rw [mkWord_toNat, BitVec.toNat_ofNat, BitVec.toNat_ofNat]
  omega

theorem pageAnswers_read {d : Byte} {s : State} (h : pageAnswers d s) (k : Nat) :
    ∃ b u, cpuRead (mkWord (BitVec.ofNat 8 k) d) (dmaStates d s k) = .ok b u := by
  obtain ⟨hparams, -⟩ := dmaStates_fixed d s k
  refine cpuRead_answers ?_
  rcases h with hlow | hhigh | hp
  · exact .inl (readable_page (.inl hlow) _)
  · exact .inl (readable_page (.inr hhigh) _)
  · exact .inr (hparams ▸ hp)

/-- A transfer whose reads go on passes through the states of `dmaStates` (R320). -/
theorem oamDmaFrom_dmaStates {d : Byte} {s : State} (h : pageAnswers d s) (n i : Nat) :
    oamDmaFrom d n i (dmaStates d s i) = .ok () (dmaStates d s (i + n)) := by
  induction n generalizing i with
  | zero => rfl
  | succ n ih =>
    obtain ⟨b, u, hread⟩ := pageAnswers_read h i
    have hnext : dmaStates d s (i + 1) = u.oamPut i b := dmaStep_of_read hread
    rw [oamDmaFrom, hread, Bus.bind_ok, ← hnext, ih, Nat.add_right_comm, Nat.add_assoc]

/-- The place in OAM of byte `k` of the page: from oamAddr on, wrapping (R320). -/
theorem oamPut_eq {k : Nat} (b : Byte) (u : State) : u.oamPut k b =
    { u with ppu := { u.ppu with oam := u.ppu.oam.write ((u.ppu.oamAddr.toNat + k) % 256) b } } := by
  have hplace : (u.ppu.oamAddr + BitVec.ofNat 8 k).toNat = (u.ppu.oamAddr.toNat + k) % 256 := by
    rw [BitVec.toNat_add, BitVec.toNat_ofNat, Nat.add_mod_mod]
  rw [State.oamPut, hplace]
  rfl

/-- One step of the transfer, as a read of the bus router and a write of OAM (R320). -/
theorem dmaStates_succ {d : Byte} {s : State} (h : pageAnswers d s) {k : Nat} (hk : k < 256) : ∃ (b : Byte) (u : State),
    cpuRead (BitVec.ofNat 16 (256 * d.toNat + k)) (dmaStates d s k) = .ok b u ∧ dmaStates d s (k + 1) =
      { u with ppu := { u.ppu with oam := u.ppu.oam.write ((s.ppu.oamAddr.toNat + k) % 256) b } } := by
  obtain ⟨b, u, hread⟩ := pageAnswers_read h k
  have hnext : dmaStates d s (k + 1) = u.oamPut k b := dmaStep_of_read hread
  have haddr : u.ppu.oamAddr = s.ppu.oamAddr := by
    rw [← (dmaStates_fixed d s (k + 1)).2, hnext, State.oamPut_ppu]
  rw [← mkWord_ofNat hk]
  exact ⟨b, u, hread, by rw [hnext, oamPut_eq, haddr]⟩

/-! ### From a page of memory -/

/-- The pages of RAM, save RAM and ROM hold a byte at every address (R60). -/
theorem byteAt_page {d : Byte} (h : d.toNat ≤ 0x1F ∨ 0x60 ≤ d.toNat) {k : Nat} (hk : k < 256) (s : State) :
    ∃ b, byteAt (BitVec.ofNat 16 (256 * d.toNat + k)) s = some b := by
  have hd := d.isLt
  have haddr : (BitVec.ofNat 16 (256 * d.toNat + k)).toNat = 256 * d.toNat + k := by
    rw [BitVec.toNat_ofNat, Nat.mod_eq_of_lt (by omega)]
  rcases h with hlow | hhigh
  · exact ⟨_, byteAt_ram (by omega) s⟩
  · exact ⟨_, byteAt_cart (by omega) s⟩

/-- OAM holds the first `k` bytes of page `d` from oamAddr on. -/
def holdsPage (oam : Memory) (d : Byte) (s : State) (k : Nat) : Prop :=
  oam.wf 256 = true ∧
    ∀ j < k, some (oam.read ((s.ppu.oamAddr.toNat + j) % 256)) = byteAt (BitVec.ofNat 16 (256 * d.toNat + j)) s

/-- The next byte of the page goes to the next place, which holds none of the bytes before it. -/
theorem holdsPage_succ {oam : Memory} {d b : Byte} {s : State} {k : Nat} (hk : k < 256) (h : holdsPage oam d s k)
    (hb : byteAt (BitVec.ofNat 16 (256 * d.toNat + k)) s = some b) :
    holdsPage (oam.write ((s.ppu.oamAddr.toNat + k) % 256) b) d s (k + 1) := by
  obtain ⟨hwf, hread⟩ := h
  refine ⟨Memory.write_wf hwf (Nat.mod_lt _ (by decide)), fun j hj => ?_⟩
  rcases Nat.lt_succ_iff_lt_or_eq.1 hj with hlt | rfl
  · rw [Memory.read_write_other (by omega), hread j hlt]
  · rw [Memory.read_write_same hwf, hb]

/-- From a page of memory the transfer changes OAM alone (R320). -/
theorem dmaStates_memory {d : Byte} {s : State} (hs : s.ppu.oam.wf 256 = true) (h : d.toNat ≤ 0x1F ∨ 0x60 ≤ d.toNat)
    {k : Nat} (hk : k ≤ 256) :
    ∃ oam, dmaStates d s k = { s with ppu := { s.ppu with oam := oam } } ∧ holdsPage oam d s k := by
  induction k with
  | zero => exact ⟨s.ppu.oam, rfl, hs, fun j hj => absurd hj (Nat.not_lt_zero j)⟩
  | succ k ih =>
    obtain ⟨oam, hstate, hpage⟩ := ih (by omega)
    obtain ⟨b, hb⟩ := byteAt_page h hk s
    have hread : cpuRead (mkWord (BitVec.ofNat 8 k) d) (dmaStates d s k) = .ok b (dmaStates d s k) := by
      rw [mkWord_ofNat hk, hstate]
      exact cpuRead_of_byteAt ((byteAt_congr rfl rfl _).trans hb)
    refine ⟨_, ?_, holdsPage_succ hk hpage hb⟩
    rw [dmaStates, dmaStep_of_read hread, oamPut_eq, hstate]

/-- A write to the OAM-DMA port is the transfer (R63). -/
theorem cpuWrite_dma {d : Byte} {s : State} (h : pageAnswers d s) : cpuWrite 0x4014 d s = .ok () (dmaStates d s 256) :=
  oamDmaFrom_dmaStates h 256 0

/-- Settles O43: the states of the transfer are `dmaStates`; a page of memory is read without an effect. -/
theorem oamDmaCopiesThePage : Obligations.OamDmaCopiesThePage := by
  intro d s
  refine ⟨fun h => ⟨dmaStates d s, rfl, fun k hk => dmaStates_succ h hk, cpuWrite_dma h, (dmaStates_fixed d s 256).2⟩,
    fun hlo hhi hp => oamDma_halt hp hlo hhi, fun hs h => ?_⟩
  obtain ⟨-, -, -, hoam, -⟩ := (memoriesWf_iff s).1 hs
  obtain ⟨oam, hstate, -, hpage⟩ := dmaStates_memory hoam h (le_refl 256)
  have hanswers : pageAnswers d s := h.imp (fun hlow => by omega) .inl
  exact ⟨oam, hstate ▸ cpuWrite_dma hanswers, hpage⟩

end Sys2Proof.Machine
end

-- ---- Proofs: The PPU tick ----
section
/-! SUPPORT. What one PPU tick leaves alone, and what it does to the counters, vblank and the pending cell (R300, R310 to R312). A
tick is the render actions of its position, which write the pipeline's own fields alone (`Renders`), and then vblank start,
the pre-render clear and the advance of the counters. -/

namespace Sys2Proof.Machine

/-- The counters and the presentation side: what the advance reads and writes (R310). -/
def Ppu.position (q : Ppu) : Nat × Nat × BitVec 1 := (q.cycle, q.scanline, q.front)

/-! ### The render actions -/

/-- The state without the PPU fields that the render actions write (R350): v, the fetch latches, the tile register, the sprite
line, the frames and two status flags. -/
def State.beyondRendering (s : State) : State :=
  { s with
    ppu := { s.ppu with
      v := 0, ntByte := 0, atBits := 0, patLo := 0, patHi := 0, tileData := 0, spriteLine := [], frame0 := [], frame1 := []
      sprite0Hit := false, spriteOverflow := false } }

/-- The change from `s` to `t` is one that the render actions can make: they set the sprite flags and never clear one. -/
structure Renders (s t : State) : Prop where
  frame : t.beyondRendering = s.beyondRendering
  sprite0Hit : s.ppu.sprite0Hit = true → t.ppu.sprite0Hit = true
  spriteOverflow : s.ppu.spriteOverflow = true → t.ppu.spriteOverflow = true

theorem Renders.refl (s : State) : Renders s s := ⟨rfl, id, id⟩

theorem Renders.trans {s t u : State} (h : Renders s t) (h' : Renders t u) : Renders s u :=
  ⟨h'.frame.trans h.frame, h'.sprite0Hit ∘ h.sprite0Hit, h'.spriteOverflow ∘ h.spriteOverflow⟩

theorem renders_when {b : Bool} {f : State → State} {s : State} (hf : Renders s (f s)) : Renders s (when b f s) := by
  unfold when
  split
  · exact hf
  · exact Renders.refl s

theorem renders_backdrop (x y : Nat) (s : State) : Renders s (backdrop x y s) := by
  obtain ⟨f0, f1, hq⟩ := putPixel_eq s.ppu x y (outputColor 0 s)
  rw [backdrop, hq]
  exact ⟨rfl, id, id⟩

theorem renders_renderPixel (x y : Nat) (s : State) : Renders s (renderPixel x y s) := by
  obtain ⟨f0, f1, hq⟩ := putPixel_eq s.ppu x y (outputColor (composeColor (s.ppu.bgPixel x) (s.ppu.spritePixel x)) s)
  rw [renderPixel, hq]
  exact ⟨rfl, fun h => by simp [h], id⟩

theorem renders_fetchStep (c : Nat) (s : State) : Renders s (fetchStep c s) := by
  have hshift : Renders s (s.setPpu s.ppu.shiftTile) := ⟨rfl, id, id⟩
  unfold fetchStep
  dsimp only
  split
  case h_6 => exact hshift
  all_goals exact hshift.trans ⟨rfl, id, id⟩

theorem renders_scrollStep (line c : Nat) (s : State) : Renders s (scrollStep line c s) := by
  refine (((renders_when ?_).trans (renders_when ?_)).trans (renders_when ?_)).trans (renders_when ?_) <;> exact ⟨rfl, id, id⟩

theorem renders_spriteStep (line c : Nat) (s : State) : Renders s (spriteStep line c s) := by
  unfold spriteStep
  split
  · split
    · exact ⟨rfl, id, fun h => by simp [evaluateSprites, h]⟩
    split
    · exact ⟨rfl, id, id⟩
    · exact Renders.refl s
  · exact Renders.refl s

theorem renders_ppuActions (line c : Nat) (s : State) : Renders s (ppuActions line c s) := by
  unfold ppuActions
  dsimp only
  split
  · exact (((renders_when (renders_renderPixel _ _ _)).trans (renders_when (renders_fetchStep _ _))).trans
      (renders_when (renders_scrollStep _ _ _))).trans (renders_spriteStep _ _ _)
  · exact renders_when (renders_backdrop _ _ _)

section
variable {s t : State} (h : Renders s t)
include h

theorem Renders.ctrl : t.ppu.ctrl = s.ppu.ctrl := congrArg (·.ppu.ctrl) h.frame
theorem Renders.vblank : t.ppu.vblank = s.ppu.vblank := congrArg (·.ppu.vblank) h.frame
theorem Renders.position : t.ppu.position = s.ppu.position := congrArg (·.ppu.position) h.frame
theorem Renders.pending : t.pending = s.pending := (congrArg State.pending h.frame :)

end

/-! ### The counters -/

theorem advance_eq (q : Ppu) : ∃ c l f, q.advance = { q with cycle := c, scanline := l, front := f } := by
  unfold Ppu.advance
  split
  · exact ⟨_, q.scanline, q.front, rfl⟩
  split
  · exact ⟨_, _, q.front, rfl⟩
  · exact ⟨_, _, _, rfl⟩

theorem advance_position_congr {q r : Ppu} (h : q.position = r.position) : q.advance.position = r.advance.position := by
  simp only [Ppu.position, Prod.mk.injEq] at h
  obtain ⟨hcycle, hline, hfront⟩ := h
  simp only [Ppu.advance, hcycle, hline]
  split
  · simp only [Ppu.position, hfront]
  split <;> simp only [Ppu.position, hfront]

/-- The advance leaves the status flags. -/
theorem advance_flags (q : Ppu) : q.advance.vblank = q.vblank ∧ q.advance.sprite0Hit = q.sprite0Hit ∧
    q.advance.spriteOverflow = q.spriteOverflow := by
  obtain ⟨c, l, f, hq⟩ := advance_eq q
  rw [hq]
  exact ⟨rfl, rfl, rfl⟩

/-! ### The tick by its position -/

/-- VblankStart sets vblank, and writes an NMI over whatever the cell holds when control bit 7 is set (R311). -/
theorem vblankStart_eq (s : State) : vblankStart s = { s with
    ppu := { s.ppu with vblank := true }
    pending := if s.ppu.ctrl.getLsbD 7 then some .nmi else s.pending } := by
  unfold vblankStart when
  cases hnmi : s.ppu.ctrl.getLsbD 7 <;> simp only [State.setPpu_ppu, hnmi] <;> rfl

section
variable {s : State}

theorem ppuTick_vblankStart (h : s.ppu.scanline = 241 ∧ s.ppu.cycle = 1) :
    ∃ u, Renders s u ∧ ppuTick s = (vblankStart u).setPpu (vblankStart u).ppu.advance := by
  obtain ⟨hline, hcycle⟩ := h
  refine ⟨_, renders_ppuActions 241 1 s, ?_⟩
  simp only [ppuTick, hline, hcycle]
  rfl

theorem ppuTick_preRenderClear (h : s.ppu.scanline = 261 ∧ s.ppu.cycle = 1) :
    ∃ u, Renders s u ∧ ppuTick s = (preRenderClear u).setPpu (preRenderClear u).ppu.advance := by
  obtain ⟨hline, hcycle⟩ := h
  refine ⟨_, renders_ppuActions 261 1 s, ?_⟩
  simp only [ppuTick, hline, hcycle]
  rfl

theorem ppuTick_other (h : ¬(s.ppu.scanline = 241 ∧ s.ppu.cycle = 1)) (h' : ¬(s.ppu.scanline = 261 ∧ s.ppu.cycle = 1)) :
    ∃ u, Renders s u ∧ ppuTick s = u.setPpu u.ppu.advance := by
  refine ⟨_, renders_ppuActions s.ppu.scanline s.ppu.cycle s, ?_⟩
  have hvblank : (s.ppu.scanline == 241 && s.ppu.cycle == 1) = false := by simpa using h
  have hclear : (s.ppu.scanline == 261 && s.ppu.cycle == 1) = false := by simpa using h'
  simp only [ppuTick, hvblank, hclear]
  rfl

end

/-- Settles O46: the two positions and all the others; the render actions touch neither vblank nor the cell. -/
theorem vblankAndNmi : Obligations.VblankAndNmi := by
  intro s
  refine ⟨fun h => ?start, fun h => ?clear, fun h => ?pending, fun h h' => ?vblank, fun h => ?flags⟩
  case start =>
    obtain ⟨u, hu, htick⟩ := ppuTick_vblankStart h
    obtain ⟨hvblank, -⟩ := advance_flags (vblankStart u).ppu
    rw [htick, State.setPpu_ppu, hvblank, State.setPpu_pending, vblankStart_eq, hu.ctrl, hu.pending]
    exact ⟨rfl, rfl⟩
  case clear =>
    obtain ⟨u, -, htick⟩ := ppuTick_preRenderClear h
    rw [htick]
    exact advance_flags (preRenderClear u).ppu
  case pending =>
    by_cases h' : s.ppu.scanline = 261 ∧ s.ppu.cycle = 1
    · obtain ⟨u, hu, htick⟩ := ppuTick_preRenderClear h'
      exact htick ▸ hu.pending
    · obtain ⟨u, hu, htick⟩ := ppuTick_other h h'
      exact htick ▸ hu.pending
  case vblank =>
    obtain ⟨u, hu, htick⟩ := ppuTick_other h h'
    obtain ⟨hvblank, -⟩ := advance_flags u.ppu
    rw [htick, State.setPpu_ppu, hvblank, hu.vblank]
  case flags =>
    by_cases h' : s.ppu.scanline = 241 ∧ s.ppu.cycle = 1
    · obtain ⟨u, hu, htick⟩ := ppuTick_vblankStart h'
      obtain ⟨-, hhit, hoverflow⟩ := advance_flags (vblankStart u).ppu
      rw [htick, State.setPpu_ppu, hhit, hoverflow, vblankStart_eq]
      exact ⟨hu.sprite0Hit, hu.spriteOverflow⟩
    · obtain ⟨u, hu, htick⟩ := ppuTick_other h' h
      obtain ⟨-, hhit, hoverflow⟩ := advance_flags u.ppu
      rw [htick, State.setPpu_ppu, hhit, hoverflow]
      exact ⟨hu.sprite0Hit, hu.spriteOverflow⟩

/-! ### What every tick leaves alone -/

/-- The state without the pending cell and with only the ports' registers and OAM of the PPU: what no tick writes (R300). -/
def State.beyondTicks (s : State) : State :=
  { s with
    pending := none
    ppu := { Ppu.initial with
      ctrl := s.ppu.ctrl, mask := s.ppu.mask, oamAddr := s.ppu.oamAddr, oam := s.ppu.oam, t := s.ppu.t, x := s.ppu.x
      w := s.ppu.w, readBuffer := s.ppu.readBuffer } }

/-- The render actions write less than a tick may. -/
theorem Renders.beyondTicks {s t : State} (h : Renders s t) : t.beyondTicks = s.beyondTicks :=
  (congrArg State.beyondTicks h.frame :)

theorem setPpu_advance_beyondTicks (s : State) : (s.setPpu s.ppu.advance).beyondTicks = s.beyondTicks := by
  obtain ⟨c, l, f, hq⟩ := advance_eq s.ppu
  rw [hq]
  rfl

/-- A tick is a change that leaves the position and what no tick writes, and then the advance (R300). -/
theorem ppuTick_eq_advance (s : State) :
    ∃ u : State, u.beyondTicks = s.beyondTicks ∧ u.ppu.position = s.ppu.position ∧ ppuTick s = u.setPpu u.ppu.advance := by
  by_cases hstart : s.ppu.scanline = 241 ∧ s.ppu.cycle = 1
  · obtain ⟨u, hu, htick⟩ := ppuTick_vblankStart hstart
    refine ⟨_, ?_, ?_, htick⟩
    · rw [vblankStart_eq, ← hu.beyondTicks]
      rfl
    · rw [vblankStart_eq, ← hu.position]
      rfl
  by_cases hclear : s.ppu.scanline = 261 ∧ s.ppu.cycle = 1
  · obtain ⟨u, hu, htick⟩ := ppuTick_preRenderClear hclear
    exact ⟨preRenderClear u, hu.beyondTicks, hu.position, htick⟩
  · obtain ⟨u, hu, htick⟩ := ppuTick_other hstart hclear
    exact ⟨_, hu.beyondTicks, hu.position, htick⟩

theorem ppuTicks_beyondTicks (n : Nat) (s : State) : (ppuTicks n s).beyondTicks = s.beyondTicks := by
  induction n generalizing s with
  | zero => rfl
  | succ n ih =>
    obtain ⟨u, hu, -, htick⟩ := ppuTick_eq_advance s
    rw [ppuTicks, ih, htick, setPpu_advance_beyondTicks, hu]

/-- Settles O47: the parts of the state are read off `beyondTicks`, which no tick changes. -/
theorem ppuTicksLeaveTheRestAlone : Obligations.PpuTicksLeaveTheRestAlone := by
  intro n s
  have h := ppuTicks_beyondTicks n s
  exact ⟨_, rfl, congrArg (fun u : State => { u with ppu := (ppuTicks n s).ppu, pending := (ppuTicks n s).pending }) h,
    congrArg (·.ppu.ctrl) h, congrArg (·.ppu.mask) h, congrArg (·.ppu.oamAddr) h, congrArg (·.ppu.oam) h,
    congrArg (·.ppu.t) h, congrArg (·.ppu.x) h, congrArg (·.ppu.w) h, congrArg (·.ppu.readBuffer) h⟩

/-! ### Any number of ticks -/

theorem ppuTick_position (s : State) : (ppuTick s).ppu.position = s.ppu.advance.position := by
  obtain ⟨u, -, hposition, htick⟩ := ppuTick_eq_advance s
  rw [htick]
  exact advance_position_congr hposition

/-- `q` stands `n` positions after `r`, of the 89342 of a frame, and its frames have been swapped at each wrap (R38, R310). -/
structure PositionsAfter (r q : Ppu) (n : Nat) : Prop where
  cycle : q.cycle ≤ 340
  scanline : q.scanline ≤ 261
  place : q.scanline * 341 + q.cycle = (r.scanline * 341 + r.cycle + n) % 89342
  front : q.front.toNat = (r.front.toNat + (r.scanline * 341 + r.cycle + n) / 89342) % 2

theorem PositionsAfter.trans {p q r : Ppu} {m n : Nat} (h : PositionsAfter p q m) (h' : PositionsAfter q r n) :
    PositionsAfter p r (m + n) := by
  refine ⟨h'.cycle, h'.scanline, ?_, ?_⟩
  · rw [h'.place, h.place, Nat.mod_add_mod, Nat.add_assoc]
  · rw [h'.front, h.front, h.place]
    omega

theorem PositionsAfter.congr {p q r : Ppu} {n : Nat} (h : PositionsAfter p q n) (hr : r.position = q.position) :
    PositionsAfter p r n := by
  simp only [Ppu.position, Prod.mk.injEq] at hr
  obtain ⟨hcycle, hline, hfront⟩ := hr
  exact ⟨hcycle ▸ h.cycle, hline ▸ h.scanline, by rw [hcycle, hline]; exact h.place, hfront ▸ h.front⟩

theorem front_swapped (f : BitVec 1) : (1 - f).toNat = (f.toNat + 1) % 2 := by
  revert f; decide

/-- The advance moves on one position, and swaps the frames at the last (R310). -/
theorem positionsAfter_advance {q : Ppu} (hcycle : q.cycle ≤ 340) (hline : q.scanline ≤ 261) :
    PositionsAfter q q.advance 1 := by
  have hfront := q.front.isLt
  unfold Ppu.advance
  split
  · exact ⟨‹_›, hline, by dsimp only; omega, by dsimp only; omega⟩
  split
  · exact ⟨Nat.zero_le _, ‹_›, by dsimp only; omega, by dsimp only; omega⟩
  · have hlast : q.scanline * 341 + q.cycle + 1 = 89342 := by omega
    exact ⟨Nat.zero_le _, Nat.zero_le _, by dsimp only; omega, by rw [hlast]; exact front_swapped q.front⟩

theorem positionsAfter_ppuTicks (n : Nat) {s : State} (hcycle : s.ppu.cycle ≤ 340) (hline : s.ppu.scanline ≤ 261) :
    PositionsAfter s.ppu (ppuTicks n s).ppu n := by
  induction n generalizing s with
  | zero =>
    have hfront := s.ppu.front.isLt
    rw [ppuTicks]
    exact ⟨hcycle, hline, by omega, by omega⟩
  | succ n ih =>
    have htick : PositionsAfter s.ppu (ppuTick s).ppu 1 :=
      (positionsAfter_advance hcycle hline).congr (ppuTick_position s)
    rw [ppuTicks, Nat.add_comm]
    exact htick.trans (ih htick.cycle htick.scanline)

theorem countersWf_iff (s : State) : s.countersWf = true ↔ s.ppu.cycle ≤ 340 ∧ s.ppu.scanline ≤ 261 := by
  simp [State.countersWf]

/-- Settles O45, by induction on the ticks: each moves on one position. -/
theorem framesOf89342Ticks : Obligations.FramesOf89342Ticks := by
  intro n s hs
  obtain ⟨hcycle, hline⟩ := (countersWf_iff s).1 hs
  have h := positionsAfter_ppuTicks n hcycle hline
  exact ⟨(countersWf_iff _).2 ⟨h.cycle, h.scanline⟩, h.place, h.front⟩

end Sys2Proof.Machine
end

-- ---- Proofs: What no instruction changes ----
section
/-! SUPPORT. No instruction touches the PPU's pipeline, the pending cell, the ROM, the launch parameters or the host's moves
(R302, R403, R421): each of its accesses, and each shape of instruction, keeps them (`KeepsPipeline`). -/

namespace Sys2Proof.Machine

/-! ### What is kept -/

/-- The PPU without the registers that the ports reach, vblank among them, and without OAM. -/
def Ppu.pipeline (q : Ppu) : Ppu :=
  { q with ctrl := 0, mask := 0, vblank := false, oamAddr := 0, oam := [], v := 0, t := 0, x := 0, w := false, readBuffer := 0 }

/-- The cartridge without save RAM and without mapper 1's registers (R43, R44). -/
def Cart.rom (c : Cart) : Cart :=
  { c with prgRam := [], mirror := .horizontal, shift := 0, control := 0, chr0 := 0, chr1 := 0, prgReg := 0 }

/-- The parts of the state that no instruction changes. -/
def State.beyondInstructions (s : State) :
    Option Interrupt × Ppu × Cart × List LoadWarning × Params × List HostMove × Bool :=
  (s.pending, s.ppu.pipeline, s.cart.rom, s.loadDiag, s.params, s.host, s.quit)

/-- The change from `s` to `t` leaves them, and does not set vblank, which a status read clears (R304). -/
structure KeepsPipeline (s t : State) : Prop where
  parts : t.beyondInstructions = s.beyondInstructions
  vblank : t.ppu.vblank = true → s.ppu.vblank = true

theorem KeepsPipeline.refl (s : State) : KeepsPipeline s s := ⟨rfl, id⟩

theorem KeepsPipeline.trans {s t u : State} (h : KeepsPipeline s t) (h' : KeepsPipeline t u) : KeepsPipeline s u :=
  ⟨h'.parts.trans h.parts, h.vblank ∘ h'.vblank⟩

theorem keepsPipeline_bind {α β : Type} {s : State} {r : Bus α} {k : α → State → Bus β} (hr : KeepsPipeline s r.state)
    (hk : ∀ v u, KeepsPipeline u (k v u).state) : KeepsPipeline s (r.bind k).state := by
  cases r with
  | ok v u => exact hr.trans (hk v u)
  | stop u => exact hr

/-! ### The ports and the bus router -/

/-- A change of the ports' registers or OAM alone. -/
theorem keepsPipeline_setPpu {s : State} {q : Ppu} (hq : q.pipeline = s.ppu.pipeline)
    (hvblank : q.vblank = true → s.ppu.vblank = true) : KeepsPipeline s (s.setPpu q) :=
  ⟨by rw [State.beyondInstructions, State.setPpu_ppu, hq]; rfl, hvblank⟩

theorem keepsPipeline_ppuWrite (a : Word) (d : Byte) (s : State) : KeepsPipeline s (ppuWrite a d s) := by
  unfold ppuWrite
  dsimp only
  split
  · exact KeepsPipeline.refl s
  split <;> exact ⟨rfl, id⟩

theorem keepsPipeline_scrollWrite (d : Byte) (s : State) : KeepsPipeline s (s.setPpu (s.ppu.scrollWrite d)) := by
  unfold Ppu.scrollWrite
  split <;> exact keepsPipeline_setPpu rfl id

theorem keepsPipeline_addressWrite (d : Byte) (s : State) : KeepsPipeline s (s.setPpu (s.ppu.addressWrite d)) := by
  unfold Ppu.addressWrite
  split <;> exact keepsPipeline_setPpu rfl id

theorem keepsPipeline_ppuPortWrite (p : Nat) (d : Byte) (s : State) : KeepsPipeline s (ppuPortWrite p d s) := by
  unfold ppuPortWrite
  split
  · exact keepsPipeline_setPpu rfl id
  · exact keepsPipeline_setPpu rfl id
  · exact KeepsPipeline.refl s
  · exact keepsPipeline_setPpu rfl id
  · exact keepsPipeline_setPpu rfl id
  · exact keepsPipeline_scrollWrite d s
  · exact keepsPipeline_addressWrite d s
  · exact (keepsPipeline_ppuWrite s.ppu.busAddr d s).trans (keepsPipeline_setPpu rfl id)

theorem keepsPipeline_ppuPortRead (p : Nat) (s : State) : KeepsPipeline s (ppuPortRead p s).2 := by
  refine ⟨by rw [ppuPortRead_effects]; rfl, ?_⟩
  unfold ppuPortRead
  split
  · exact fun h => absurd h Bool.false_ne_true
  · exact id
  · unfold dataRead
    dsimp only
    split <;> exact id
  · exact id

theorem keepsPipeline_cpuRead (a : Word) (s : State) : KeepsPipeline s (cpuRead a s).state := by
  unfold cpuRead
  split
  · exact KeepsPipeline.refl s
  split
  · exact keepsPipeline_ppuPortRead _ s
  split
  · exact ⟨rfl, id⟩
  split
  · exact KeepsPipeline.refl s
  · unfold illegalRead
    split <;> exact ⟨rfl, id⟩

theorem keepsPipeline_oamDmaFrom (d : Byte) (n i : Nat) (s : State) : KeepsPipeline s (oamDmaFrom d n i s).state := by
  induction n generalizing i s with
  | zero => exact KeepsPipeline.refl s
  | succ n ih =>
    exact keepsPipeline_bind (keepsPipeline_cpuRead _ s) fun b u =>
      (keepsPipeline_setPpu rfl id : KeepsPipeline u (u.oamPut i b)).trans (ih (i + 1) _)

theorem cartWrite_rom (c : Cart) (a : Word) (d : Byte) : (c.cpuWrite a d).rom = c.rom := by
  unfold Cart.cpuWrite
  split
  · rfl
  split
  · rfl
  · obtain ⟨m, shift, control, chr0, chr1, prgReg, h, -⟩ := serialWrite_eq c a d
    rw [h]
    rfl

theorem keepsPipeline_cpuWrite (a : Word) (d : Byte) (s : State) : KeepsPipeline s (cpuWrite a d s).state := by
  unfold cpuWrite
  split
  · exact ⟨rfl, id⟩
  split
  · exact keepsPipeline_ppuPortWrite _ d s
  split
  · exact keepsPipeline_oamDmaFrom d 256 0 s
  split
  · exact ⟨rfl, id⟩
  split
  · exact ⟨congrArg (fun c : Cart => (s.pending, s.ppu.pipeline, c, s.loadDiag, s.params, s.host, s.quit))
      (cartWrite_rom s.cart a d), id⟩
  · unfold illegalWrite
    split <;> exact ⟨rfl, id⟩

/-! ### The shapes of the instructions -/

/-- Every next state that the result can be keeps what `s` has. -/
def ResultKeepsPipeline (s : State) (r : Result) : Prop := ∀ t, r = .next t → KeepsPipeline s t

theorem resultKeeps_next {s t : State} (h : KeepsPipeline s t) : ResultKeepsPipeline s (.next t) := by
  rintro _ ⟨⟩
  exact h

theorem resultKeeps_complete {s : State} {i : Instr} {r : Bus Nat} (h : KeepsPipeline s r.state) :
    ResultKeepsPipeline s (complete i r) := by
  cases r with
  | ok n u => exact resultKeeps_next (h.trans ⟨rfl, id⟩)
  | stop u => exact resultKeeps_next (h.trans ⟨rfl, id⟩)

theorem keepsPipeline_start (i : Instr) (s : State) : KeepsPipeline s (s.start i) := ⟨rfl, id⟩

theorem resultKeeps_haltTick (op : Byte) (s : State) : ResultKeepsPipeline s (haltTick op s) := resultKeeps_next ⟨rfl, id⟩

theorem resultKeeps_behindGate {i : Instr} {k : State → Result} {s : State} (h : ResultKeepsPipeline s (k s)) :
    ResultKeepsPipeline s (behindGate i k s) := by
  rcases behindGate_cases i k s with hgate | hgate
  · exact hgate ▸ h
  · exact hgate ▸ resultKeeps_haltTick i.opcode s

theorem resultKeeps_register {i : Instr} {f : State → State} {s : State} (hf : ∀ u, KeepsPipeline u (f u)) :
    ResultKeepsPipeline s (register i f s) :=
  resultKeeps_complete ((keepsPipeline_start i s).trans (hf _))

theorem resultKeeps_branchOp (i : Instr) (d : Byte) (cond : Bool) (s : State) : ResultKeepsPipeline s (branchOp i d cond s) := by
  unfold branchOp
  split <;> exact resultKeeps_complete ⟨rfl, id⟩

theorem resultKeeps_shiftAcc (i : Instr) (k : ShiftKind) (s : State) : ResultKeepsPipeline s (shiftOp i k .acc s) := by
  rw [shiftOp]
  refine resultKeeps_register fun u => ?_
  exact ⟨rfl, id⟩

theorem keepsPipeline_load (m : ReadOperand) (s : State) : KeepsPipeline s (load m s).state := by
  cases m with
  | imm b => exact KeepsPipeline.refl s
  | mem m =>
    rw [load, loadMem, effAddr_eq, Bus.bind_ok]
    exact keepsPipeline_bind (keepsPipeline_cpuRead _ s) fun _ u => KeepsPipeline.refl u

theorem keepsPipeline_readEffect (i : Instr) (v : Byte) (s : State) : KeepsPipeline s (readEffect i v s) := by
  unfold readEffect
  split <;> exact ⟨rfl, id⟩

theorem keepsPipeline_modified (i : Instr) (v : Byte) (s : State) : KeepsPipeline s (modified i v s).2 := by
  unfold modified
  split <;> exact ⟨rfl, id⟩

theorem keepsPipeline_afterModify (i : Instr) (r : Byte) (s : State) : KeepsPipeline s (afterModify i r s) := by
  unfold afterModify
  split <;> exact ⟨rfl, id⟩

theorem keepsPipeline_jumpTarget (t : JumpOperand) (s : State) : KeepsPipeline s (jumpTarget t s).state := by
  cases t with
  | abs w => exact KeepsPipeline.refl s
  | ind w =>
    exact keepsPipeline_bind (keepsPipeline_cpuRead w s) fun _ u =>
      keepsPipeline_bind (keepsPipeline_cpuRead _ u) fun _ u => KeepsPipeline.refl u

section
variable {i : Instr}

theorem resultKeeps_read {m : ReadOperand} (h : readOperand i = some m) (s : State) : ResultKeepsPipeline s (exec i s) := by
  rw [exec_read h]
  exact resultKeeps_behindGate (resultKeeps_complete (keepsPipeline_bind
    ((keepsPipeline_start i s).trans (keepsPipeline_load m _)) fun r u => keepsPipeline_readEffect i r.value u))

theorem resultKeeps_write {m : AddrMode} (h : writeOperand i = some m) (s : State) : ResultKeepsPipeline s (exec i s) := by
  rw [exec_write h]
  refine resultKeeps_behindGate ?_
  rw [writeOp, effAddr_eq, Bus.bind_ok]
  exact resultKeeps_complete (keepsPipeline_bind ((keepsPipeline_start i s).trans (keepsPipeline_cpuWrite _ _ _))
    fun _ u => KeepsPipeline.refl u)

theorem resultKeeps_modify {m : AddrMode} (h : modifyOperand i = some m) (s : State) : ResultKeepsPipeline s (exec i s) := by
  rw [exec_modify h]
  refine resultKeeps_behindGate ?_
  rw [modifyOp, effAddr_eq, Bus.bind_ok]
  exact resultKeeps_complete (keepsPipeline_bind ((keepsPipeline_start i s).trans (keepsPipeline_cpuRead _ _)) fun v u =>
    keepsPipeline_bind ((keepsPipeline_modified i v u).trans (keepsPipeline_cpuWrite _ _ _)) fun _ u =>
      keepsPipeline_afterModify i _ u)

theorem resultKeeps_halting (h : haltingInstr i = true) (s : State) : ResultKeepsPipeline s (exec i s) :=
  exec_haltingInstr h s ▸ resultKeeps_haltTick i.opcode s

end

theorem resultKeeps_jmp (t : JumpOperand) (s : State) : ResultKeepsPipeline s (exec (.jmp t) s) :=
  resultKeeps_complete (keepsPipeline_bind
    ((keepsPipeline_start (.jmp t) s).trans (keepsPipeline_bind (keepsPipeline_jumpTarget t _) fun _ _ => ⟨rfl, id⟩))
    fun _ u => KeepsPipeline.refl u)

/-! ### Every instruction -/

theorem resultKeeps_exec (i : Instr) (s : State) : ResultKeepsPipeline s (exec i s) := by
  cases i
  case lda | ldx | ldy | adc | sbc | and | ora | eor | cmp | cpx | cpy | bit | lax | sbcEB => exact resultKeeps_read rfl s
  case sta | stx | sty | sax => exact resultKeeps_write rfl s
  case inc | dec | dcp | isb | slo | rla | sre | rra => exact resultKeeps_modify rfl s
  case asl m | lsr m | rol m | ror m =>
    cases m with
    | acc => exact resultKeeps_shiftAcc _ _ s
    | mem m => exact resultKeeps_modify rfl s
  case nopUnofficial op m =>
    cases m with
    | implied => exact resultKeeps_behindGate (i := .nopUnofficial op .implied) (resultKeeps_register KeepsPipeline.refl)
    | imm b | mem m => exact resultKeeps_read rfl s
  case bpl | bmi | bvc | bvs | bcc | bcs | bne | beq => exact resultKeeps_branchOp _ _ _ s
  case jmp t => exact resultKeeps_jmp t s
  case jsr w => exact exec_jsr s w ▸ resultKeeps_next ⟨rfl, id⟩
  case rts => exact exec_rts s ▸ resultKeeps_next ⟨rfl, id⟩
  case rti => exact exec_rti s ▸ resultKeeps_next ⟨rfl, id⟩
  case brk => exact exec_brk s ▸ resultKeeps_next ⟨rfl, id⟩
  case pha => exact exec_pha s ▸ resultKeeps_next ⟨rfl, id⟩
  case php => exact exec_php s ▸ resultKeeps_next ⟨rfl, id⟩
  case pla => exact exec_pla s ▸ resultKeeps_next ⟨rfl, id⟩
  case plp => exact exec_plp s ▸ resultKeeps_next ⟨rfl, id⟩
  case kil | anc | alr | arr | xaa | ahx | tas | shy | shx | lxa | las | axs => exact resultKeeps_halting rfl s
  all_goals
    unfold exec
    refine resultKeeps_register fun u => ?_
    exact ⟨rfl, id⟩

/-- Settles O48: every shape of instruction keeps the parts, and they are read off one by one. -/
theorem instructionsLeaveThePpuPipelineAlone : Obligations.InstructionsLeaveThePpuPipelineAlone := by
  intro i s t h
  obtain ⟨hparts, hvblank⟩ := resultKeeps_exec i s t h
  simp only [State.beyondInstructions, Prod.mk.injEq] at hparts
  obtain ⟨hpending, hppu, hcart, hdiag, hparams, hhost, hquit⟩ := hparts
  have hrom : t.cart = { s.cart with
      prgRam := t.cart.prgRam, mirror := t.cart.mirror, shift := t.cart.shift, control := t.cart.control
      chr0 := t.cart.chr0, chr1 := t.cart.chr1, prgReg := t.cart.prgReg } :=
    congrArg (fun c : Cart => { c with
      prgRam := t.cart.prgRam, mirror := t.cart.mirror, shift := t.cart.shift, control := t.cart.control
      chr0 := t.cart.chr0, chr1 := t.cart.chr1, prgReg := t.cart.prgReg }) hcart
  exact ⟨hpending, congrArg (·.cycle) hppu, congrArg (·.scanline) hppu, congrArg (·.front) hppu, congrArg (·.frame0) hppu,
    congrArg (·.frame1) hppu, congrArg (·.spriteLine) hppu, congrArg (·.ntByte) hppu, congrArg (·.atBits) hppu,
    congrArg (·.patLo) hppu, congrArg (·.patHi) hppu, congrArg (·.tileData) hppu, congrArg (·.sprite0Hit) hppu,
    congrArg (·.spriteOverflow) hppu, hvblank, hrom, hdiag, hparams, hhost, hquit⟩

end Sys2Proof.Machine
end

-- ---- Proofs: The render actions, stage by stage ----
section
/-! SUPPORT. What one PPU tick does to the fields that the render actions write (R300, R310 to R312, R350). The actions are four
stages, of which each writes its own fields and reads no field that another one writes before it, so that each field after a tick
is what its stage makes of the state before the tick. -/

namespace Sys2Proof.Machine

/-! ### The four stages -/

/-- "a render line": a visible line or the pre-render line (R350). -/
def renderLine (line : Nat) : Bool := decide (line ≤ 239) || line == 261

/-- The pixel or the backdrop of a visible position (R370 to R375). -/
def pixelStage (line c : Nat) (s : State) : State :=
  when (decide (line ≤ 239) && visibleCycle c)
    (if s.ppu.renderingEnabled then renderPixel (c - 1) line else backdrop (c - 1) line) s

/-- The background fetches (R352 to R355). -/
def fetchStage (line c : Nat) (s : State) : State :=
  when (s.ppu.renderingEnabled && renderLine line && fetchCycle c) (fetchStep c) s

/-- The scroll updates (R356 to R359). -/
def scrollStage (line c : Nat) (s : State) : State :=
  when (s.ppu.renderingEnabled && renderLine line) (scrollStep line c) s

/-- The sprite work (R360 to R363). -/
def spriteStage (line c : Nat) (s : State) : State := when s.ppu.renderingEnabled (spriteStep line c) s

/-- The fetch latches and the tile register (R39). -/
def Ppu.latches (q : Ppu) : Byte × Byte × Byte × Byte × BitVec 64 := (q.ntByte, q.atBits, q.patLo, q.patHi, q.tileData)

/-! ### What each stage writes -/

theorem when_true (f : State → State) (s : State) : when true f s = f s := rfl

theorem when_false (f : State → State) (s : State) : when false f s = s := rfl

/-- The pixel stage writes the frames and sprite-zero hit (R373, R374). -/
theorem pixelStage_eq (line c : Nat) (s : State) :
    ∃ f0 f1 hit, pixelStage line c s = s.setPpu { s.ppu with frame0 := f0, frame1 := f1, sprite0Hit := hit } := by
  unfold pixelStage when
  split
  · split
    · obtain ⟨f0, f1, hq⟩ := putPixel_eq s.ppu (c - 1) line
        (outputColor (composeColor (s.ppu.bgPixel (c - 1)) (s.ppu.spritePixel (c - 1))) s)
      exact ⟨f0, f1, _, by rw [renderPixel, hq]⟩
    · obtain ⟨f0, f1, hq⟩ := putPixel_eq s.ppu (c - 1) line (outputColor 0 s)
      exact ⟨f0, f1, _, by rw [backdrop, hq]⟩
  · exact ⟨_, _, _, rfl⟩

/-- A fetch cycle, field by field: the fetch of its place in the eight, and the shift of the tile register (R352 to R355). -/
theorem fetchStep_eq (c : Nat) (s : State) : fetchStep c s = s.setPpu { s.ppu with
    ntByte := if c % 8 = 1 then ppuRead s.ppu.ntAddr s else s.ppu.ntByte
    atBits := if c % 8 = 3 then ((ppuRead s.ppu.atAddr s >>> s.ppu.atShift) &&& 0x03) <<< 2 else s.ppu.atBits
    patLo := if c % 8 = 5 then ppuRead s.ppu.patAddr s else s.ppu.patLo
    patHi := if c % 8 = 7 then ppuRead (s.ppu.patAddr + 8) s else s.ppu.patHi
    tileData := if c % 8 = 0 then s.ppu.tileData <<< 4 ||| s.ppu.tileRow else s.ppu.tileData <<< 4 } := by
  have hc : c % 8 < 8 := Nat.mod_lt c (by decide)
  unfold fetchStep
  dsimp only
  generalize c % 8 = k at hc
  interval_cases k <;> rfl

/-- The v that the scroll updates of a render line make of v and t, in order (R350, R356 to R359). -/
def scrolled (line c : Nat) (t v : BitVec 15) : BitVec 15 :=
  let v1 := if line = 261 ∧ 280 ≤ c ∧ c ≤ 304 then (v &&& 0x041F) ||| (t &&& 0x7BE0) else v
  let v2 := if fetchCycle c = true ∧ c % 8 = 0 then incX v1 else v1
  let v3 := if c = 256 then incY v2 else v2
  if c = 257 then (v3 &&& 0x7BE0) ||| (t &&& 0x041F) else v3

theorem scrollStep_eq (line c : Nat) (s : State) :
    scrollStep line c s = s.setPpu { s.ppu with v := scrolled line c s.ppu.t s.ppu.v } := by
  unfold scrollStep scrolled when
  simp only [Bool.and_eq_true, beq_iff_eq, decide_eq_true_eq, and_assoc]
  split_ifs <;> rfl

/-- The row of a sprite depends on OAM and the control register alone of the PPU (R361, R362). -/
theorem rasterize_setPpu {s : State} {q : Ppu} (hoam : q.oam = s.ppu.oam) (hctrl : q.ctrl = s.ppu.ctrl) (n row h : Nat)
    (line : Sparse SpritePixel) : rasterize n row h line (s.setPpu q) = rasterize n row h line s := by
  simp only [rasterize, State.setPpu_ppu, Ppu.spriteAddr, Ppu.oamByte, hoam, hctrl]
  rfl

theorem scanSprites_setPpu {s : State} {q : Ppu} (hoam : q.oam = s.ppu.oam) (hctrl : q.ctrl = s.ppu.ctrl)
    (scanline h left n count : Nat) (line : Sparse SpritePixel) :
    scanSprites (s.setPpu q) scanline h left n count line = scanSprites s scanline h left n count line := by
  induction left generalizing n count line with
  | zero => rfl
  | succ left ih =>
    simp only [scanSprites, ih, rasterize_setPpu hoam hctrl]
    rw [State.setPpu_ppu, Ppu.oamByte, hoam]
    rfl

/-- The scan of a line's sprites (R360). -/
def scanLine (line : Nat) (s : State) : Sparse SpritePixel × Bool := scanSprites s line s.ppu.spriteHeight 64 0 0 []

/-- The sprite work writes the line buffer and the overflow flag (R360, R363). -/
theorem spriteStep_eq (line c : Nat) (s : State) : spriteStep line c s = s.setPpu { s.ppu with
    spriteLine := if c = 257 ∧ line ≤ 239 then (scanLine line s).1 else if c = 257 ∧ line = 261 then [] else s.ppu.spriteLine
    spriteOverflow := if c = 257 ∧ line ≤ 239 then s.ppu.spriteOverflow || (scanLine line s).2 else s.ppu.spriteOverflow } := by
  unfold spriteStep
  by_cases hc : c = 257
  · by_cases hvisible : line ≤ 239
    · simp only [hc, hvisible, and_self, if_true]
      rfl
    · by_cases hline : line = 261 <;> simp only [hc, hvisible, hline, if_true, if_false, and_self, and_false] <;> rfl
  · simp only [hc, false_and, if_false]
    rfl

/-! ### The stages together -/

/-- The PPU after the render actions: each stage from the state before them. -/
def rendered (line c : Nat) (s : State) : Ppu :=
  { s.ppu with
    frame0 := (pixelStage line c s).ppu.frame0
    frame1 := (pixelStage line c s).ppu.frame1
    sprite0Hit := (pixelStage line c s).ppu.sprite0Hit
    ntByte := (fetchStage line c s).ppu.ntByte
    atBits := (fetchStage line c s).ppu.atBits
    patLo := (fetchStage line c s).ppu.patLo
    patHi := (fetchStage line c s).ppu.patHi
    tileData := (fetchStage line c s).ppu.tileData
    v := (scrollStage line c s).ppu.v
    spriteLine := (spriteStage line c s).ppu.spriteLine
    spriteOverflow := (spriteStage line c s).ppu.spriteOverflow }

theorem scanLine_setPpu {s : State} {q : Ppu} (hoam : q.oam = s.ppu.oam) (hctrl : q.ctrl = s.ppu.ctrl) (line : Nat) :
    scanLine line (s.setPpu q) = scanLine line s := by
  rw [scanLine, scanSprites_setPpu hoam hctrl, State.setPpu_ppu, Ppu.spriteHeight, hctrl]
  rfl

theorem setPpu_setPpu (s : State) (q r : Ppu) : (s.setPpu q).setPpu r = s.setPpu r := rfl

/-- Each of the render actions is its stage, run on the state before them all (R350). -/
theorem ppuActions_eq (line c : Nat) (s : State) : ppuActions line c s = s.setPpu (rendered line c s) := by
  obtain ⟨f0, f1, hit, hpixel⟩ := pixelStage_eq line c s
  unfold rendered
  rw [hpixel]
  cases hon : s.ppu.renderingEnabled
  case false =>
    rw [pixelStage, hon] at hpixel
    simp only [ppuActions, fetchStage, scrollStage, spriteStage, hon, Bool.false_and, when_false]
    exact hpixel
  case true =>
    rw [pixelStage, hon, if_pos rfl] at hpixel
    simp only [ppuActions, fetchStage, scrollStage, spriteStage, hon, Bool.true_and, when_true, if_true, hpixel, renderLine]
    cases decide (line ≤ 239) || line == 261
    case false =>
      simp only [Bool.false_and, when_false, spriteStep_eq]
      rw [scanLine_setPpu] <;> rfl
    case true =>
      cases fetchCycle c <;>
        simp only [Bool.and_false, Bool.and_true, when_true, when_false, fetchStep_eq, scrollStep_eq, spriteStep_eq,
          setPpu_setPpu, State.setPpu_ppu] <;>
        rw [scanLine_setPpu] <;> rfl

/-! ### After the tick -/

/-- The PPU without the counters, the presentation side and vblank. -/
def Ppu.drawing (q : Ppu) : Ppu := { q with cycle := 0, scanline := 0, front := 0, vblank := false }

theorem advance_drawing (q : Ppu) : q.advance.drawing = q.drawing := by
  obtain ⟨c, l, f, hq⟩ := advance_eq q
  rw [hq]
  rfl

theorem when_vblankStart_drawing (b : Bool) (s : State) : (when b vblankStart s).ppu.drawing = s.ppu.drawing := by
  cases b
  · rfl
  · rw [when_true, vblankStart_eq]
    rfl

theorem when_preRenderClear_drawing (b : Bool) (s : State) : (when b preRenderClear s).ppu.drawing =
    { s.ppu.drawing with
      sprite0Hit := s.ppu.drawing.sprite0Hit && !b
      spriteOverflow := s.ppu.drawing.spriteOverflow && !b } := by
  cases b <;> simp only [Bool.not_false, Bool.not_true, Bool.and_true, Bool.and_false] <;> rfl

/-- The position of the pre-render clear (R312). -/
def State.clears (s : State) : Bool := s.ppu.scanline == 261 && s.ppu.cycle == 1

theorem clears_eq_false {s : State} (h : ¬(s.ppu.scanline = 261 ∧ s.ppu.cycle = 1)) : s.clears = false := by
  simpa [State.clears] using h

section
variable (s : State)

/-- Beyond the counters and vblank, a tick is the render actions and the pre-render clear of two flags (R300, R312). -/
theorem ppuTick_drawing : (ppuTick s).ppu.drawing =
    { (rendered s.ppu.scanline s.ppu.cycle s).drawing with
      sprite0Hit := (pixelStage s.ppu.scanline s.ppu.cycle s).ppu.sprite0Hit && !s.clears
      spriteOverflow := (spriteStage s.ppu.scanline s.ppu.cycle s).ppu.spriteOverflow && !s.clears } := by
  simp only [ppuTick, State.setPpu_ppu, advance_drawing, when_preRenderClear_drawing, when_vblankStart_drawing, ppuActions_eq]
  rfl

theorem ppuTick_v : (ppuTick s).ppu.v = (scrollStage s.ppu.scanline s.ppu.cycle s).ppu.v :=
  congrArg (·.v) (ppuTick_drawing s)

theorem ppuTick_latches : (ppuTick s).ppu.latches = (fetchStage s.ppu.scanline s.ppu.cycle s).ppu.latches :=
  (congrArg Ppu.latches (ppuTick_drawing s) :)

theorem ppuTick_spriteLine : (ppuTick s).ppu.spriteLine = (spriteStage s.ppu.scanline s.ppu.cycle s).ppu.spriteLine :=
  congrArg (·.spriteLine) (ppuTick_drawing s)

theorem ppuTick_spriteOverflow : (ppuTick s).ppu.spriteOverflow =
    ((spriteStage s.ppu.scanline s.ppu.cycle s).ppu.spriteOverflow && !s.clears) :=
  congrArg (·.spriteOverflow) (ppuTick_drawing s)

theorem ppuTick_frame0 : (ppuTick s).ppu.frame0 = (pixelStage s.ppu.scanline s.ppu.cycle s).ppu.frame0 :=
  congrArg (·.frame0) (ppuTick_drawing s)

theorem ppuTick_frame1 : (ppuTick s).ppu.frame1 = (pixelStage s.ppu.scanline s.ppu.cycle s).ppu.frame1 :=
  congrArg (·.frame1) (ppuTick_drawing s)

theorem ppuTick_sprite0Hit : (ppuTick s).ppu.sprite0Hit =
    ((pixelStage s.ppu.scanline s.ppu.cycle s).ppu.sprite0Hit && !s.clears) :=
  congrArg (·.sprite0Hit) (ppuTick_drawing s)

end

end Sys2Proof.Machine
end

-- ---- Proofs: The scroll updates ----
section
/-! SUPPORT. CopyX, CopyY, IncX and IncY, and when each happens (R350, R356 to R359). The fields of v are read off its value: coarse
X is the value modulo 32, and so on (R35). -/

namespace Sys2Proof.Machine

/-! ### Masks in integers -/

theorem xor_one_add (n : Nat) : (n ^^^ 1) + 2 * (n % 2) = n + 1 := by
  rcases Nat.even_or_odd n with h | h
  · rw [Nat.xor_one_of_even h, Nat.even_iff.1 h]
  · have hodd := Nat.odd_iff.1 h
    rw [Nat.xor_one_of_odd h]
    omega

/-- Flipping bit `k` adds or takes away `2 ^ k`. -/
theorem xor_twoPow_add (n k : Nat) : (n ^^^ 2 ^ k) + 2 ^ k * (2 * (n / 2 ^ k % 2)) = n + 2 ^ k := by
  have hlow : (n ^^^ 2 ^ k) % 2 ^ k = n % 2 ^ k := by rw [Nat.xor_mod_two_pow, Nat.mod_self, Nat.xor_zero]
  have hhigh : (n ^^^ 2 ^ k) / 2 ^ k = n / 2 ^ k ^^^ 1 := by rw [Nat.xor_div_two_pow, Nat.div_self (Nat.two_pow_pos k)]
  calc (n ^^^ 2 ^ k) + 2 ^ k * (2 * (n / 2 ^ k % 2))
      = 2 ^ k * (n / 2 ^ k ^^^ 1) + n % 2 ^ k + 2 ^ k * (2 * (n / 2 ^ k % 2)) := by rw [← hhigh, ← hlow, Nat.div_add_mod]
    _ = 2 ^ k * (n / 2 ^ k + 1) + n % 2 ^ k := by rw [← xor_one_add]; ring
    _ = n + 2 ^ k := by rw [Nat.mul_succ, Nat.add_right_comm, Nat.div_add_mod]

section
variable (v : BitVec 15)

theorem coarseX_toNat : (v &&& 0x001F).toNat = v.toNat % 32 := Nat.and_two_pow_sub_one_eq_mod v.toNat 5

theorem belowFineY_toNat : (v &&& 0x0FFF).toNat = v.toNat % 4096 := Nat.and_two_pow_sub_one_eq_mod v.toNat 12

theorem highMask_toNat (k : Nat) : (v &&& BitVec.allOnes 15 <<< k).toNat = v.toNat / 2 ^ k * 2 ^ k := by
  rw [← BitVec.shiftLeft_ushiftRight, BitVec.toNat_shiftLeft, BitVec.toNat_ushiftRight, Nat.shiftRight_eq_div_pow,
    Nat.shiftLeft_eq, Nat.mod_eq_of_lt (Nat.lt_of_le_of_lt (Nat.div_mul_le_self _ _) v.isLt)]

theorem aboveCoarseX_toNat : (v &&& 0x7FE0).toNat = v.toNat / 32 * 32 := highMask_toNat v 5

theorem fineY_toNat : (v &&& 0x7000).toNat = v.toNat / 4096 * 4096 := highMask_toNat v 12

theorem coarseY_toNat : ((v &&& 0x0FFF) >>> 5 &&& 0x1F).toNat = v.toNat / 32 % 32 := by
  rw [coarseX_toNat, BitVec.toNat_ushiftRight, belowFineY_toNat, Nat.shiftRight_eq_div_pow]
  omega

/-- `v` with another coarse Y. -/
theorem withCoarseY_toNat {y : BitVec 15} (hy : y.toNat < 32) :
    ((v &&& (0x7C1F : BitVec 15)) ||| y <<< 5).toNat = 1024 * (v.toNat / 1024) + (32 * y.toNat + v.toNat % 32) := by
  have hsplit : v &&& 0x7C1F = v &&& 0x7C00 ||| v &&& 0x001F := BitVec.and_or_distrib_left (y := 0x7C00) (z := 0x001F)
  have hhigh : (v &&& 0x7C00).toNat = v.toNat / 1024 * 1024 := highMask_toNat v 10
  have hshift : (y <<< 5).toNat = 32 * y.toNat := by
    rw [BitVec.toNat_shiftLeft, Nat.shiftLeft_eq]
    omega
  have hlow : 32 * y.toNat + v.toNat % 32 < 2 ^ 10 := by omega
  rw [hsplit, BitVec.toNat_or, BitVec.toNat_or, hhigh, hshift, coarseX_toNat]
  calc v.toNat / 1024 * 1024 ||| v.toNat % 32 ||| 32 * y.toNat
      = 1024 * (v.toNat / 1024) ||| (32 * y.toNat ||| v.toNat % 32) := by
        rw [Nat.or_assoc, Nat.or_comm (v.toNat % 32), Nat.mul_comm]
    _ = 1024 * (v.toNat / 1024) ||| (32 * y.toNat + v.toNat % 32) :=
        congrArg (_ ||| ·) (Nat.two_pow_add_eq_or_of_lt (i := 5) (Nat.mod_lt _ (by decide)) y.toNat).symm
    _ = _ := (Nat.two_pow_add_eq_or_of_lt hlow (v.toNat / 1024)).symm

theorem clearedCoarseY_toNat : (v &&& 0x7C1F).toNat = 1024 * (v.toNat / 1024) + v.toNat % 32 := by
  simpa using withCoarseY_toNat v (y := 0) (by decide)

end

/-! ### IncX and IncY in integers -/

theorem incX_toNat (v : BitVec 15) :
    (incX v).toNat = if v.toNat % 32 = 31 then v.toNat / 32 * 32 ^^^ 1024 else v.toNat + 1 := by
  have hlast : v &&& 0x001F = 31 ↔ v.toNat % 32 = 31 := by rw [← BitVec.toNat_inj, coarseX_toNat]; rfl
  have hlt := v.isLt
  unfold incX
  split
  · rw [if_pos (hlast.1 ‹_›), BitVec.toNat_xor, aboveCoarseX_toNat]
    rfl
  · have hbelow := mt hlast.2 ‹_›
    rw [if_neg hbelow, BitVec.toNat_add]
    exact Nat.mod_eq_of_lt (a := v.toNat + 1) (by omega)

/-- IncX moves coarse X on, into the other horizontal nametable at the end, and leaves the vertical fields (R358). -/
theorem incX_fields (v : BitVec 15) : (incX v).toNat % 32 = (v.toNat + 1) % 32 ∧
    (incX v).toNat / 1024 % 2 = (v.toNat / 1024 + (v.toNat % 32 + 1) / 32) % 2 ∧
    (incX v).toNat / 32 % 32 = v.toNat / 32 % 32 ∧ (incX v).toNat / 2048 = v.toNat / 2048 := by
  have hflip : (v.toNat / 32 * 32 ^^^ 1024) + 1024 * (2 * (v.toNat / 32 * 32 / 1024 % 2)) = v.toNat / 32 * 32 + 1024 :=
    xor_twoPow_add _ 10
  rw [incX_toNat]
  split <;> omega

/-- IncX leaves every bit of the vertical fields (R358). -/
theorem incX_getLsbD (v : BitVec 15) {k : Nat} (hlo : 5 ≤ k) (hk : k ≠ 10) : (incX v).getLsbD k = v.getLsbD k := by
  obtain ⟨-, -, hcoarseY, hhigh⟩ := incX_fields v
  by_cases hlt : k < 10
  · have hbit (n : Nat) : n.testBit k = (n / 32 % 32).testBit (k - 5) := by
      rw [Nat.testBit_mod_two_pow _ 5, Nat.testBit_div_two_pow (n := 5), Nat.sub_add_cancel hlo, decide_eq_true (by omega),
        Bool.true_and]
    rw [BitVec.getLsbD, BitVec.getLsbD, hbit, hcoarseY, ← hbit]
  · have hbit (n : Nat) : n.testBit k = (n / 2048).testBit (k - 11) := by
      rw [Nat.testBit_div_two_pow (n := 11), Nat.sub_add_cancel (by omega)]
    rw [BitVec.getLsbD, BitVec.getLsbD, hbit, hhigh, ← hbit]

/-- Before its last row IncY moves fine Y on. -/
theorem incY_toNat_of_fineY {v : BitVec 15} (h : v.toNat / 4096 ≠ 7) : (incY v).toNat = v.toNat + 4096 := by
  have hfine : v &&& 0x7000 ≠ 0x7000 := by
    rw [Ne, ← BitVec.toNat_inj, fineY_toNat]
    exact fun hlast : v.toNat / 4096 * 4096 = 28672 => by omega
  have hlt := v.isLt
  rw [incY, if_pos hfine, BitVec.toNat_add]
  exact Nat.mod_eq_of_lt (a := v.toNat + 4096) (by omega)

section
variable {v : BitVec 15} (h : v.toNat / 4096 = 7)
include h

/-- In its last row IncY gives v another coarse Y, and after row 29 it flips the vertical nametable (R359). -/
theorem incY_of_lastRow : incY v =
    if v.toNat / 32 % 32 = 29 then ((v &&& 0x0FFF) ^^^ 0x0800) &&& 0x7C1F
    else if v.toNat / 32 % 32 = 31 then v &&& 0x0FFF &&& 0x7C1F
    else (v &&& (0x0FFF : BitVec 15) &&& (0x7C1F : BitVec 15)) ||| (((v &&& 0x0FFF) >>> 5 &&& 0x1F) + 1) <<< 5 := by
  have hfine : ¬v &&& 0x7000 ≠ 0x7000 := by
    rw [Ne, ← BitVec.toNat_inj, fineY_toNat, h]
    exact fun hne => hne rfl
  have hrow (k : BitVec 15) : (v &&& 0x0FFF) >>> 5 &&& 0x1F = k ↔ v.toNat / 32 % 32 = k.toNat := by
    rw [← BitVec.toNat_inj, coarseY_toNat]
  rw [incY, if_neg hfine]
  simp only [hrow]
  rfl

theorem incY_toNat_of_row29 (hy : v.toNat / 32 % 32 = 29) :
    (incY v).toNat = 1024 * ((v.toNat % 4096 ^^^ 2048) / 1024) + (v.toNat % 4096 ^^^ 2048) % 32 := by
  rw [incY_of_lastRow h, if_pos hy, clearedCoarseY_toNat, BitVec.toNat_xor, belowFineY_toNat]
  rfl

theorem incY_toNat_of_row31 (hy : v.toNat / 32 % 32 = 31) :
    (incY v).toNat = 1024 * (v.toNat % 4096 / 1024) + v.toNat % 4096 % 32 := by
  rw [incY_of_lastRow h, if_neg (by omega), if_pos hy, clearedCoarseY_toNat, belowFineY_toNat]

theorem incY_toNat_of_row (h29 : v.toNat / 32 % 32 ≠ 29) (h31 : v.toNat / 32 % 32 ≠ 31) : (incY v).toNat =
    1024 * (v.toNat % 4096 / 1024) + (32 * (v.toNat / 32 % 32 + 1) + v.toNat % 4096 % 32) := by
  have hnext : (((v &&& 0x0FFF) >>> 5 &&& 0x1F) + 1).toNat = v.toNat / 32 % 32 + 1 := by
    rw [BitVec.toNat_add, coarseY_toNat]
    exact Nat.mod_eq_of_lt (a := v.toNat / 32 % 32 + 1) (by omega)
  rw [incY_of_lastRow h, if_neg h29, if_neg h31, withCoarseY_toNat _ (by omega), hnext, belowFineY_toNat]

end

/-- IncY moves fine Y on, and at its end coarse Y, into the other vertical nametable after row 29; it leaves the horizontal
fields (R359). -/
theorem incY_fields (v : BitVec 15) : (incY v).toNat % 32 = v.toNat % 32 ∧ (incY v).toNat / 1024 % 2 = v.toNat / 1024 % 2 ∧
    (incY v).toNat / 4096 = (v.toNat / 4096 + 1) % 8 ∧
    (v.toNat / 4096 ≠ 7 → (incY v).toNat / 32 % 32 = v.toNat / 32 % 32 ∧
      (incY v).toNat / 2048 % 2 = v.toNat / 2048 % 2) ∧
    (v.toNat / 4096 = 7 →
      (incY v).toNat / 32 % 32 =
        (if v.toNat / 32 % 32 = 29 ∨ v.toNat / 32 % 32 = 31 then 0 else v.toNat / 32 % 32 + 1) ∧
      (incY v).toNat / 2048 % 2 = (if v.toNat / 32 % 32 = 29 then 1 - v.toNat / 2048 % 2 else v.toNat / 2048 % 2)) := by
  have hlt := v.isLt
  by_cases h : v.toNat / 4096 = 7
  case neg =>
    rw [incY_toNat_of_fineY h]
    omega
  by_cases h29 : v.toNat / 32 % 32 = 29
  · have hflip : (v.toNat % 4096 ^^^ 2048) + 2048 * (2 * (v.toNat % 4096 / 2048 % 2)) = v.toNat % 4096 + 2048 :=
      xor_twoPow_add _ 11
    rw [incY_toNat_of_row29 h h29, if_pos h29, if_pos (.inl h29)]
    omega
  by_cases h31 : v.toNat / 32 % 32 = 31
  · rw [incY_toNat_of_row31 h h31, if_neg h29, if_pos (.inr h31)]
    omega
  · rw [incY_toNat_of_row h h29 h31, if_neg h29, if_neg (by omega)]
    omega

/-! ### When v changes -/

theorem fetchCycle_iff (c : Nat) : fetchCycle c = true ↔ 1 ≤ c ∧ c ≤ 256 ∨ 321 ≤ c ∧ c ≤ 336 := by
  simp only [fetchCycle, visibleCycle, Bool.or_eq_true, Bool.and_eq_true, decide_eq_true_eq]

theorem renderLine_iff (line : Nat) : renderLine line = true ↔ line ≤ 239 ∨ line = 261 := by
  simp only [renderLine, Bool.or_eq_true, decide_eq_true_eq, beq_iff_eq]

section
variable {line c : Nat} {t v : BitVec 15}

/-- The horizontal fields of `h` with the vertical fields of `v`, settled at each of the 15 bits (R35). -/
theorem joinFields_getLsbD (v h : BitVec 15) (k : Nat) :
    ((v &&& 0x7BE0) ||| (h &&& 0x041F)).getLsbD k = if k < 5 ∨ k = 10 then h.getLsbD k else v.getLsbD k := by
  by_cases hk : k < 15
  · interval_cases k <;> simp
  · rw [BitVec.getLsbD_of_ge _ _ (by omega), BitVec.getLsbD_of_ge _ _ (by omega), BitVec.getLsbD_of_ge _ _ (by omega), ite_self]

/-- CopyX takes the horizontal fields of t (R356). -/
theorem scrolled_copyX (k : Nat) :
    (scrolled line 257 t v).getLsbD k = if k < 5 ∨ k = 10 then t.getLsbD k else v.getLsbD k := by
  have hv : scrolled line 257 t v = (v &&& 0x7BE0) ||| (t &&& 0x041F) := by simp [scrolled, fetchCycle_iff]
  rw [hv, joinFields_getLsbD]

/-- CopyY takes the vertical fields of t, on the pre-render line alone (R357). -/
theorem scrolled_copyY (hlo : 280 ≤ c) (hhi : c ≤ 304) (k : Nat) :
    (scrolled 261 c t v).getLsbD k = if k < 5 ∨ k = 10 then v.getLsbD k else t.getLsbD k := by
  have hfetch : ¬fetchCycle c = true := by rw [fetchCycle_iff]; omega
  have hv : scrolled 261 c t v = (v &&& 0x041F) ||| (t &&& 0x7BE0) := by
    simp only [scrolled, hlo, hhi, and_self, if_true, if_neg (mt And.left hfetch), if_neg (by omega : c ≠ 256),
      if_neg (by omega : c ≠ 257)]
  rw [hv, BitVec.or_comm, joinFields_getLsbD]

/-- The eighth fetch cycles move coarse X on, and the last one of the visible cycles then moves Y on (R358, R359). -/
theorem scrolled_eighth (hc : 1 ≤ c ∧ c ≤ 256 ∨ 321 ≤ c ∧ c ≤ 336) (h8 : c % 8 = 0) :
    scrolled line c t v = if c = 256 then incY (incX v) else incX v := by
  have hfetch := (fetchCycle_iff c).2 hc
  simp only [scrolled, hfetch, h8, and_self, if_true, if_neg (by omega : ¬(line = 261 ∧ 280 ≤ c ∧ c ≤ 304)),
    if_neg (by omega : c ≠ 257)]

/-- At every other cycle v stays (R350). -/
theorem scrolled_idle (hcopyY : ¬(line = 261 ∧ 280 ≤ c ∧ c ≤ 304))
    (heighth : ¬((1 ≤ c ∧ c ≤ 256 ∨ 321 ≤ c ∧ c ≤ 336) ∧ c % 8 = 0)) (hcopyX : c ≠ 257) : scrolled line c t v = v := by
  have hincX : ¬(fetchCycle c = true ∧ c % 8 = 0) := by rwa [fetchCycle_iff]
  simp only [scrolled, if_neg hcopyY, if_neg hincX, if_neg (by omega : c ≠ 256), if_neg hcopyX]

end

section
variable {s : State}

theorem ppuTick_v_of_rendering (hon : s.ppu.renderingEnabled = true) (hline : s.ppu.scanline ≤ 239 ∨ s.ppu.scanline = 261) :
    (ppuTick s).ppu.v = scrolled s.ppu.scanline s.ppu.cycle s.ppu.t s.ppu.v := by
  rw [ppuTick_v, scrollStage, hon, (renderLine_iff _).2 hline, Bool.and_self, when_true, scrollStep_eq, State.setPpu_ppu]

theorem ppuTick_v_of_idle (h : ¬(s.ppu.renderingEnabled = true ∧ (s.ppu.scanline ≤ 239 ∨ s.ppu.scanline = 261))) :
    (ppuTick s).ppu.v = s.ppu.v := by
  rw [← renderLine_iff, ← Bool.and_eq_true, Bool.not_eq_true] at h
  rw [ppuTick_v, scrollStage, h, when_false]

end

/-- Settles O49: the cycles of each scroll update, with its effect from the lemmas above. -/
theorem scrollUpdates : Obligations.ScrollUpdates := by
  intro s
  refine ⟨fun hoff => ppuTick_v_of_idle fun h => ?off, fun hon hline => ?render,
    fun hlo hne => ppuTick_v_of_idle fun h => by omega⟩
  case off => exact Bool.false_ne_true (hoff.symm.trans h.1)
  rw [ppuTick_v_of_rendering hon hline]
  refine ⟨fun hc k => ?copyX, fun hpre hlo hhi k => ?copyY, fun hc h8 => ?eighth, fun hc => ?idle⟩
  case copyX => rw [hc, scrolled_copyX]
  case copyY => rw [hpre, scrolled_copyY hlo hhi]
  case idle => exact scrolled_idle (by omega) (by omega) (by omega)
  case eighth =>
    obtain ⟨hcoarseX, hnametableX, hcoarseY, hhigh⟩ := incX_fields s.ppu.v
    obtain ⟨hcoarseX', hnametableX', hfineY, hrow, hlast⟩ := incY_fields (incX s.ppu.v)
    rw [scrolled_eighth hc h8]
    by_cases h256 : s.ppu.cycle = 256
    · have hfine : (incX s.ppu.v).toNat / 4096 = s.ppu.v.toNat / 4096 := by
        rw [← Nat.div_div_eq_div_mul _ 2048 2, hhigh, Nat.div_div_eq_div_mul]
      have hnametableY : (incX s.ppu.v).toNat / 2048 % 2 = s.ppu.v.toNat / 2048 % 2 := by rw [hhigh]
      simp only [hfine, hcoarseY, hnametableY] at hfineY hrow hlast
      rw [if_pos h256, hcoarseX', hnametableX']
      exact ⟨hcoarseX, hnametableX, fun h => absurd h256 h, fun _ => ⟨hfineY, hrow, hlast⟩⟩
    · rw [if_neg h256]
      exact ⟨hcoarseX, hnametableX, fun _ k => incX_getLsbD s.ppu.v, fun h => absurd h h256⟩

end Sys2Proof.Machine
end

-- ---- Proofs: The background fetches ----
section
/-! SUPPORT. The addresses of the background fetches in integers, the pixels of a fetched tile, and when each latch changes (R350 to
R355). -/

namespace Sys2Proof.Machine

/-! ### The addresses -/

/-- A mask of `b` bits above bit `a` cuts out a field. -/
theorem and_field (n a b : Nat) : n &&& (2 ^ b - 1) * 2 ^ a = n / 2 ^ a % 2 ^ b * 2 ^ a := by
  refine Nat.eq_of_testBit_eq fun i => ?_
  rw [Nat.testBit_and, Nat.testBit_mul_two_pow, Nat.testBit_mul_two_pow, Nat.testBit_mod_two_pow, Nat.testBit_div_two_pow,
    Nat.testBit_two_pow_sub_one]
  by_cases h : a ≤ i
  · rw [Nat.sub_add_cancel h, decide_eq_true h, Bool.true_and, Bool.true_and, Bool.and_comm]
  · rw [decide_eq_false h, Bool.false_and, Bool.false_and, Bool.and_false]

theorem eq_ofNat_of_toNat {a : Word} {n : Nat} (h : a.toNat = n) : a = BitVec.ofNat 16 n := by
  rw [← h, BitVec.ofNat_toNat, BitVec.setWidth_eq]

section
variable (q : Ppu)

theorem vWord_toNat : (q.v.setWidth 16 : Word).toNat = q.v.toNat := BitVec.toNat_setWidth_of_le (by decide)

theorem ntAddr_eq : q.ntAddr = BitVec.ofNat 16 (0x2000 + q.v.toNat % 0x1000) := by
  have hlow : q.v.toNat % 0x1000 < 2 ^ 13 := by omega
  have hfield : (q.v.setWidth 16 &&& 0x0FFF : Word).toNat = q.v.toNat % 0x1000 := by
    rw [BitVec.toNat_and, vWord_toNat]
    exact Nat.and_two_pow_sub_one_eq_mod _ 12
  refine eq_ofNat_of_toNat ?_
  rw [Ppu.ntAddr, BitVec.toNat_or, hfield]
  exact (Nat.two_pow_add_eq_or_of_lt hlow 1).symm

/-- The fields of FetchAT's address share no bit (R354). -/
theorem or_atAddr_fields : ∀ a < 4, ∀ b < 8, ∀ c < 8,
    0x23C0 ||| a * 1024 ||| b * 8 ||| c = 0x23C0 + a * 1024 + b * 8 + c := by decide

theorem atAddr_eq : q.atAddr =
    BitVec.ofNat 16 (0x23C0 + q.v.toNat / 1024 % 4 * 1024 + q.v.toNat / 128 % 8 * 8 + q.v.toNat / 4 % 8) := by
  have hnametable : (q.v.setWidth 16 &&& 0x0C00 : Word).toNat = q.v.toNat / 1024 % 4 * 1024 := by
    rw [BitVec.toNat_and, vWord_toNat]
    exact and_field _ 10 2
  have hrow : ((q.v.setWidth 16 : Word) >>> 4 &&& 0x38).toNat = q.v.toNat / 128 % 8 * 8 := by
    rw [BitVec.toNat_and, BitVec.toNat_ushiftRight, vWord_toNat, Nat.shiftRight_eq_div_pow, ← Nat.div_div_eq_div_mul _ 16 8]
    exact and_field _ 3 3
  have hcolumn : ((q.v.setWidth 16 : Word) >>> 2 &&& 0x07).toNat = q.v.toNat / 4 % 8 := by
    rw [BitVec.toNat_and, BitVec.toNat_ushiftRight, vWord_toNat, Nat.shiftRight_eq_div_pow]
    exact Nat.and_two_pow_sub_one_eq_mod _ 3
  refine eq_ofNat_of_toNat ?_
  have hor : q.atAddr.toNat = 0x23C0 ||| (q.v.setWidth 16 &&& 0x0C00 : Word).toNat |||
      ((q.v.setWidth 16 : Word) >>> 4 &&& 0x38).toNat ||| ((q.v.setWidth 16 : Word) >>> 2 &&& 0x07).toNat := rfl
  rw [hor, hnametable, hrow, hcolumn]
  exact or_atAddr_fields _ (Nat.mod_lt _ (by decide)) _ (Nat.mod_lt _ (by decide)) _ (Nat.mod_lt _ (by decide))

theorem or_quadrant : ∀ a < 2, ∀ b < 2, a * 4 ||| b * 2 = 4 * a + 2 * b := by decide

theorem atShift_eq : q.atShift = 4 * (q.v.toNat / 64 % 2) + 2 * (q.v.toNat / 2 % 2) := by
  have hrow : ((q.v.setWidth 16 : Word) >>> 4 &&& 0x04).toNat = q.v.toNat / 64 % 2 * 4 := by
    rw [BitVec.toNat_and, BitVec.toNat_ushiftRight, vWord_toNat, Nat.shiftRight_eq_div_pow, ← Nat.div_div_eq_div_mul _ 16 4]
    exact and_field _ 2 1
  have hcolumn : (q.v.setWidth 16 &&& 0x02 : Word).toNat = q.v.toNat / 2 % 2 * 2 := by
    rw [BitVec.toNat_and, vWord_toNat]
    exact and_field _ 1 1
  have hor : q.atShift = ((q.v.setWidth 16 : Word) >>> 4 &&& 0x04).toNat ||| (q.v.setWidth 16 &&& 0x02 : Word).toNat := rfl
  rw [hor, hrow, hcolumn]
  exact or_quadrant _ (Nat.mod_lt _ (by decide)) _ (Nat.mod_lt _ (by decide))

theorem patAddr_eq : q.patAddr =
    BitVec.ofNat 16 ((if q.ctrl.getLsbD 4 then 0x1000 else 0) + 16 * q.ntByte.toNat + q.v.toNat / 4096 % 8) := by
  rw [Ppu.patAddr]
  cases q.ctrl.getLsbD 4 <;> rfl

end

/-- The two bits of FetchAT's byte that the quadrant selects, shifted left by 2 (R354). -/
theorem atBits_toNat (b : Byte) (n : Nat) : (((b >>> n) &&& 0x03) <<< 2).toNat = 4 * (b.toNat / 2 ^ n % 4) := by
  have hfield : ((b >>> n) &&& 0x03).toNat = b.toNat / 2 ^ n % 4 := by
    rw [BitVec.toNat_and, BitVec.toNat_ushiftRight, Nat.shiftRight_eq_div_pow]
    exact Nat.and_two_pow_sub_one_eq_mod _ 2
  rw [BitVec.toNat_shiftLeft, hfield, Nat.shiftLeft_eq]
  omega

/-! ### The pixels of a tile -/

/-- A pixel is the two bits that FetchAT left and one bit of each plane (R355). -/
theorem tilePixel_toNat {q : Ppu} (hlatch : q.atBits &&& 0xF3 = 0) (b : Nat) : (q.tilePixel b).toNat =
    q.atBits.toNat + 2 * bit (q.patHi.getLsbD b) + bit (q.patLo.getLsbD b) ∧ (q.tilePixel b).toNat < 16 := by
  have h : ∀ (at' : Byte) (hi lo : Bool), at' &&& 0xF3 = 0 →
      (at' ||| BitVec.ofNat 8 (bit hi) <<< 1 ||| BitVec.ofNat 8 (bit lo)).toNat = at'.toNat + 2 * bit hi + bit lo ∧
        (at' ||| BitVec.ofNat 8 (bit hi) <<< 1 ||| BitVec.ofNat 8 (bit lo)).toNat < 16 := by decide +kernel
  exact h _ _ _ hlatch

/-- One more pixel at the right of a row (R355). -/
def Ppu.pushPixel (q : Ppu) (b : Nat) (d : BitVec 64) : BitVec 64 := (d <<< 4) ||| (q.tilePixel b).setWidth 64

theorem tileRow_eq (q : Ppu) : q.tileRow = (List.range 8).foldr q.pushPixel 0 := rfl

section
variable {q : Ppu} (hlatch : q.atBits &&& 0xF3 = 0)
include hlatch

theorem pushPixel_toNat (b : Nat) {d : BitVec 64} (hd : d.toNat < 16 ^ 15) :
    (q.pushPixel b d).toNat = 16 * d.toNat + (q.tilePixel b).toNat := by
  obtain ⟨-, hpixel⟩ := tilePixel_toNat hlatch b
  have hshift : (d <<< 4).toNat = 2 ^ 4 * d.toNat := by
    rw [BitVec.toNat_shiftLeft, Nat.shiftLeft_eq]
    omega
  rw [Ppu.pushPixel, BitVec.toNat_or, hshift, BitVec.toNat_setWidth_of_le (by decide)]
  exact (Nat.two_pow_add_eq_or_of_lt hpixel _).symm

/-- The hexadecimal digits of a row of at most 16 pixels are its pixels. -/
theorem foldr_pushPixel (l : List Nat) (hl : l.length ≤ 16) : (l.foldr q.pushPixel 0).toNat < 16 ^ l.length ∧
    ∀ k (hk : k < l.length), (l.foldr q.pushPixel 0).toNat / 16 ^ k % 16 = (q.tilePixel l[k]).toNat := by
  induction l with
  | nil => exact ⟨by simp, fun k hk => absurd hk (Nat.not_lt_zero k)⟩
  | cons b l ih =>
    rw [List.length_cons] at hl
    obtain ⟨hlt, hdigit⟩ := ih (by omega)
    obtain ⟨-, hpixel⟩ := tilePixel_toNat hlatch b
    have hroom : 16 ^ l.length ≤ 16 ^ 15 := Nat.pow_le_pow_right (by decide) (by omega)
    rw [List.foldr_cons, pushPixel_toNat hlatch b (Nat.lt_of_lt_of_le hlt hroom)]
    refine ⟨by rw [List.length_cons, Nat.pow_succ]; omega, fun k hk => ?_⟩
    cases k with
    | zero =>
      rw [Nat.pow_zero, Nat.div_one, List.getElem_cons_zero]
      omega
    | succ k =>
      have hrest : (16 * (l.foldr q.pushPixel 0).toNat + (q.tilePixel b).toNat) / 16 = (l.foldr q.pushPixel 0).toNat := by omega
      rw [Nat.pow_succ', ← Nat.div_div_eq_div_mul, hrest, List.getElem_cons_succ]
      exact hdigit k (by simpa using hk)

/-- The row of a tile is eight pixels wide, bit 0 of the planes at the right (R355). -/
theorem tileRow_pixels : q.tileRow.toNat < 2 ^ 32 ∧ ∀ k < 8, q.tileRow.toNat / 16 ^ k % 16 = (q.tilePixel k).toNat := by
  obtain ⟨hlt, hdigit⟩ := foldr_pushPixel hlatch (List.range 8) (by decide)
  rw [tileRow_eq]
  refine ⟨hlt, fun k hk => ?_⟩
  rw [hdigit k (by simpa using hk), List.getElem_range]

end

/-- The high half of the tile register after the last fetch of eight (R352, R355). -/
theorem storedTile_high {d r : BitVec 64} (hr : r.toNat < 2 ^ 32) :
    ((d <<< 4) ||| r).toNat / 2 ^ 32 = d.toNat / 2 ^ 28 % 2 ^ 32 := by
  rw [BitVec.toNat_or, Nat.or_div_two_pow, Nat.div_eq_of_lt hr, Nat.or_zero, BitVec.toNat_shiftLeft, Nat.shiftLeft_eq]
  omega

/-- The pixels of the low half (R355). -/
theorem storedTile_digit (d r : BitVec 64) {k : Nat} (hk : k < 8) :
    ((d <<< 4) ||| r).toNat / 16 ^ k % 16 = (d.toNat * 16 / 16 ^ k % 16) ||| (r.toNat / 16 ^ k % 16) := by
  have hpow : 16 ^ k = 2 ^ (4 * k) := by rw [Nat.pow_mul]
  have hshift : (d <<< 4).toNat / 16 ^ k % 16 = d.toNat * 16 / 16 ^ k % 16 := by
    rw [BitVec.toNat_shiftLeft, Nat.shiftLeft_eq]
    interval_cases k <;> simp only [Nat.reducePow] <;> omega
  rw [BitVec.toNat_or, hpow, Nat.or_div_two_pow, Nat.or_mod_two_pow (n := 4), ← hpow, hshift]

/-! ### When each latch changes -/

/-- Whether a tick fetches (R350). -/
def fetches (s : State) : Bool := s.ppu.renderingEnabled && renderLine s.ppu.scanline && fetchCycle s.ppu.cycle

/-- The latches and the tile register after a tick (R350, R352 to R355). -/
theorem ppuTick_latches_eq (s : State) : (ppuTick s).ppu.latches =
    (if fetches s = true ∧ s.ppu.cycle % 8 = 1 then ppuRead s.ppu.ntAddr s else s.ppu.ntByte,
      if fetches s = true ∧ s.ppu.cycle % 8 = 3 then ((ppuRead s.ppu.atAddr s >>> s.ppu.atShift) &&& 0x03) <<< 2
        else s.ppu.atBits,
      if fetches s = true ∧ s.ppu.cycle % 8 = 5 then ppuRead s.ppu.patAddr s else s.ppu.patLo,
      if fetches s = true ∧ s.ppu.cycle % 8 = 7 then ppuRead (s.ppu.patAddr + 8) s else s.ppu.patHi,
      if fetches s = true then
        if s.ppu.cycle % 8 = 0 then s.ppu.tileData <<< 4 ||| s.ppu.tileRow else s.ppu.tileData <<< 4
      else s.ppu.tileData) := by
  rw [ppuTick_latches, fetchStage, when, ← fetches]
  cases fetches s
  · simp only [Bool.false_eq_true, false_and, if_false, Ppu.latches]
  · simp only [true_and, if_true, fetchStep_eq, Ppu.latches, State.setPpu_ppu]

/-- Settles O50: the fields of the one fetch step of the tick, with the addresses and the pixels from the lemmas above. -/
theorem backgroundFetches : Obligations.BackgroundFetches := by
  intro s fetching v c pattern hv hc hfetching hpattern
  have hfetches : fetches s = fetching := by rw [hfetching, hc]; rfl
  have hpat : s.ppu.patAddr = pattern := by rw [hpattern, hv, patAddr_eq]
  have hlatches := ppuTick_latches_eq s
  rw [hfetches, ← hc, ntAddr_eq, atAddr_eq, atShift_eq, ← hv, hpat] at hlatches
  simp only [Ppu.latches, Prod.mk.injEq] at hlatches
  obtain ⟨hnt, hat, hlo, hhi, htile⟩ := hlatches
  refine ⟨hnt, ?attr, hlo, hhi, fun hoff => ?stays, fun hon h8 => ?shifts, fun hon h8 hlatch => ?stores⟩
  case attr => rw [hat, apply_ite BitVec.toNat, atBits_toNat]
  case stays => rw [htile, if_neg (by rw [hoff]; decide)]
  case shifts => rw [htile, if_pos hon, if_neg h8, BitVec.toNat_shiftLeft, Nat.shiftLeft_eq]
  case stores =>
    have hbits : s.ppu.atBits &&& 0xF3 = 0 := beq_iff_eq.1 hlatch
    obtain ⟨hwidth, hpixels⟩ := tileRow_pixels hbits
    rw [htile, if_pos hon, if_pos h8]
    refine ⟨storedTile_high hwidth, fun k hk => ?_⟩
    rw [storedTile_digit _ _ hk, hpixels k hk, (tilePixel_toNat hbits k).1]

end Sys2Proof.Machine
end

-- ---- Proofs: Sprite evaluation ----
section
/-! SUPPORT. The scan of EvaluateSprites as a list of sprites: those whose rows include the line, of which it draws the first eight
(R360), and when the line buffer and the overflow flag change (R312, R363). -/

namespace Sys2Proof.Machine

/-! ### The scan -/

/-- The rows of sprite `n` include the line (R360). -/
def onLine (s : State) (scanline h n : Nat) : Bool :=
  decide ((s.ppu.oam.read (4 * n)).toNat ≤ scanline) && decide (scanline < (s.ppu.oam.read (4 * n)).toNat + h)

/-- Draws the line's row of sprite `n` (R360, R362). -/
def drawRow (s : State) (scanline h : Nat) (line : Sparse SpritePixel) (n : Nat) : Sparse SpritePixel :=
  rasterize n (scanline - (s.ppu.oam.read (4 * n)).toNat) h line s

theorem onLine_iff (s : State) (scanline h n : Nat) :
    (s.ppu.oamByte n 0).toNat ≤ scanline ∧ scanline - (s.ppu.oamByte n 0).toNat < h ↔ onLine s scanline h n = true := by
  simp only [onLine, Ppu.oamByte, Nat.add_zero, Bool.and_eq_true, decide_eq_true_eq]
  omega

/-- With `count` matches behind it the scan draws the next `8 - count` and reports whether there is one more (R360). -/
theorem scanSprites_eq (s : State) (scanline h left n : Nat) {count : Nat} (hcount : count ≤ 8) (line : Sparse SpritePixel) :
    scanSprites s scanline h left n count line =
      ((((List.range' n left).filter (onLine s scanline h)).take (8 - count)).foldl (drawRow s scanline h) line,
        decide (8 < count + ((List.range' n left).filter (onLine s scanline h)).length)) := by
  induction left generalizing n count line with
  | zero => simp [scanSprites, hcount]
  | succ left ih =>
    simp only [scanSprites, onLine_iff]
    rw [List.range'_succ, List.filter_cons]
    by_cases hon : onLine s scanline h n = true
    case neg => rw [if_neg hon, if_neg hon, ih _ hcount]
    rw [if_pos hon, if_pos hon]
    by_cases hfull : count = 8
    · simp [hfull]
    · obtain ⟨room, hroom⟩ : ∃ room, 8 - count = room + 1 := ⟨7 - count, by omega⟩
      rw [if_neg hfull, ih _ (by omega), hroom, List.take_succ_cons, List.foldl_cons, List.length_cons,
        (by omega : 8 - (count + 1) = room), Nat.add_right_comm, Nat.add_assoc]
      rfl

/-- The scan of a line draws the first eight of its sprites and reports a ninth (R360). -/
theorem scanLine_eq (line : Nat) (s : State) : scanLine line s =
    ((((List.range 64).filter (onLine s line s.ppu.spriteHeight)).take 8).foldl (drawRow s line s.ppu.spriteHeight) [],
      decide (8 < ((List.range 64).filter (onLine s line s.ppu.spriteHeight)).length)) := by
  rw [scanLine, scanSprites_eq _ _ _ _ _ (Nat.zero_le 8), ← List.range_eq_range', Nat.sub_zero, Nat.zero_add]

/-! ### When the buffer and the flag change -/

section
variable {s : State}

theorem ppuTick_sprites_of_off (hoff : s.ppu.renderingEnabled = false) : (ppuTick s).ppu.spriteLine = s.ppu.spriteLine ∧
    (ppuTick s).ppu.spriteOverflow = (s.ppu.spriteOverflow && !s.clears) := by
  rw [ppuTick_spriteLine, ppuTick_spriteOverflow, spriteStage, hoff, when_false]
  exact ⟨rfl, rfl⟩

theorem ppuTick_sprites_of_on (hon : s.ppu.renderingEnabled = true) : (ppuTick s).ppu.spriteLine =
      (if s.ppu.cycle = 257 ∧ s.ppu.scanline ≤ 239 then (scanLine s.ppu.scanline s).1
      else if s.ppu.cycle = 257 ∧ s.ppu.scanline = 261 then [] else s.ppu.spriteLine) ∧
    (ppuTick s).ppu.spriteOverflow = ((if s.ppu.cycle = 257 ∧ s.ppu.scanline ≤ 239
      then s.ppu.spriteOverflow || (scanLine s.ppu.scanline s).2 else s.ppu.spriteOverflow) && !s.clears) := by
  rw [ppuTick_spriteLine, ppuTick_spriteOverflow, spriteStage, hon, when_true, spriteStep_eq]
  exact ⟨rfl, rfl⟩

end

/-- Settles O51: the scan is the first eight matches, and the other ticks leave the buffer and the flag. -/
theorem spriteEvaluationAndOverflow : Obligations.SpriteEvaluationAndOverflow := by
  intro s h matching hh hmatching
  refine ⟨fun hon hc => ⟨fun hline => ?visible, fun hline => ?preRender⟩, fun hno => ?buffer, fun hno hclear => ?overflow⟩
  case visible =>
    obtain ⟨hbuffer, hoverflow⟩ := ppuTick_sprites_of_on hon
    have hscan : scanLine s.ppu.scanline s = ((matching.take 8).foldl (drawRow s s.ppu.scanline h) [],
        decide (8 < matching.length)) := by
      rw [scanLine_eq, hmatching, hh]
      rfl
    rw [hbuffer, hoverflow, if_pos ⟨hc, hline⟩, if_pos ⟨hc, hline⟩, hscan, clears_eq_false (by omega),
      Bool.not_false, Bool.and_true]
    exact ⟨rfl, rfl⟩
  case preRender =>
    obtain ⟨hbuffer, -⟩ := ppuTick_sprites_of_on hon
    rw [hbuffer, if_neg (by omega), if_pos ⟨hc, hline⟩]
  case buffer =>
    cases hon : s.ppu.renderingEnabled
    case false => exact (ppuTick_sprites_of_off hon).1
    obtain ⟨hbuffer, -⟩ := ppuTick_sprites_of_on hon
    rw [hbuffer, if_neg fun h => hno ⟨hon, h.1, .inl h.2⟩, if_neg fun h => hno ⟨hon, h.1, .inr h.2⟩]
  case overflow =>
    have hstays : (s.ppu.spriteOverflow && !s.clears) = s.ppu.spriteOverflow := by
      rw [clears_eq_false hclear, Bool.not_false, Bool.and_true]
    cases hon : s.ppu.renderingEnabled
    case false => exact (ppuTick_sprites_of_off hon).2.trans hstays
    obtain ⟨-, hoverflow⟩ := ppuTick_sprites_of_on hon
    rw [hoverflow, if_neg fun h => hno ⟨hon, h⟩, hstays]

end Sys2Proof.Machine
end

-- ---- Proofs: Sprite rasterization ----
section
/-! SUPPORT. The pattern address of a sprite's row in integers, and a pixel of the line buffer after the row has been drawn (R361,
R362). -/

namespace Sys2Proof.Machine

/-! ### The pattern address and the pattern -/

theorem spriteAddr_of_small (q : Ppu) (tile attr : Byte) (row : Nat) : q.spriteAddr tile attr row 8 =
    BitVec.ofNat 16 ((if q.ctrl.getLsbD 3 then 0x1000 else 0) + 16 * tile.toNat + flipRow attr row 8) := by
  simp only [Ppu.spriteAddr, if_true]
  cases q.ctrl.getLsbD 3 <;> rfl

/-- A tall sprite's second tile holds its rows from 8 on (R361). -/
theorem spriteAddr_of_tall (q : Ppu) (tile attr : Byte) {row : Nat} (hrow : row < 16) : q.spriteAddr tile attr row 16 =
    BitVec.ofNat 16 (0x1000 * (tile.toNat % 2) + 16 * (tile.toNat / 2 * 2 + flipRow attr row 16 / 8) +
      flipRow attr row 16 % 8) := by
  have hflip : flipRow attr row 16 < 16 := by
    unfold flipRow
    split <;> omega
  have htile : tile.toNat - tile.toNat % 2 = tile.toNat / 2 * 2 := by omega
  simp only [Ppu.spriteAddr, htile, if_neg (by decide : ¬(16 = 8))]
  split
  · rw [(by omega : flipRow attr row 16 / 8 = 1), (by omega : flipRow attr row 16 % 8 = flipRow attr row 16 - 8)]
  · rw [(by omega : flipRow attr row 16 / 8 = 0), (by omega : flipRow attr row 16 % 8 = flipRow attr row 16), Nat.add_zero]

theorem spritePattern_eq {attr lo hi : Byte} {i : Nat} {pat : BitVec 2}
    (hpat : pat.toNat = 2 * bit (hi.getLsbD (flipBit attr i)) + bit (lo.getLsbD (flipBit attr i))) :
    spritePattern attr lo hi i = pat := by
  refine BitVec.eq_of_toNat_eq ?_
  rw [hpat, spritePattern]
  cases hi.getLsbD (flipBit attr i) <;> cases lo.getLsbD (flipBit attr i) <;> rfl

/-! ### The pixels of a row -/

section
variable (attr : Byte) (left : Nat) (zero : Bool) (lo hi : Byte) {x : Nat} (hx : x < 256)
include hx

/-- Pixel `i` goes to `left + i`, if its pattern is not 0 and the place is free (R362). -/
theorem get_putSpritePixel (i : Nat) {line : Sparse SpritePixel} (hline : Sparse.wf .transparent 256 line = true) :
    Sparse.get .transparent (putSpritePixel attr left zero lo hi line i) x =
      if Sparse.get .transparent line x = .transparent ∧ left + i = x ∧ spritePattern attr lo hi i ≠ 0 then
        .solid (attr.setWidth 2) (spritePattern attr lo hi i) zero
      else Sparse.get .transparent line x := by
  unfold putSpritePixel spriteAt
  dsimp only
  by_cases hi' : left + i = x
  · subst hi'
    simp only [(by omega : left + i ≤ 255), true_and]
    by_cases hdrawn : spritePattern attr lo hi i ≠ 0 ∧ Sparse.get .transparent line (left + i) = .transparent
    · rw [if_pos hdrawn, if_pos hdrawn.symm, Sparse.get_set_same hline]
    · rw [if_neg hdrawn, if_neg (mt And.symm hdrawn)]
  · have hother : ¬(Sparse.get .transparent line x = .transparent ∧ left + i = x ∧ spritePattern attr lo hi i ≠ 0) :=
      fun h => hi' h.2.1
    rw [if_neg hother]
    split
    · exact Sparse.get_set_other hi'
    · rfl

/-- Of a list of pixels, the one that `x` is the place of is drawn, if its pattern is not 0 and the place is free (R362). -/
theorem get_foldl_putSpritePixel (l : List Nat) {line : Sparse SpritePixel} (hline : Sparse.wf .transparent 256 line = true) :
    Sparse.get .transparent (l.foldl (putSpritePixel attr left zero lo hi) line) x =
      if Sparse.get .transparent line x = .transparent ∧ left ≤ x ∧ x - left ∈ l ∧ spritePattern attr lo hi (x - left) ≠ 0 then
        .solid (attr.setWidth 2) (spritePattern attr lo hi (x - left)) zero
      else Sparse.get .transparent line x := by
  induction l generalizing line with
  | nil => simp
  | cons i l ih =>
    rw [List.foldl_cons, ih (putSpritePixel_wf hline ..), get_putSpritePixel attr left zero lo hi hx i hline]
    by_cases hdrawn : Sparse.get .transparent line x = .transparent ∧ left + i = x ∧ spritePattern attr lo hi i ≠ 0
    · obtain ⟨hfree, hplace, hpat⟩ := hdrawn
      have hi' : x - left = i := by omega
      simp [hfree, hplace, hi', (by omega : left ≤ x)]
    · rw [if_neg hdrawn]
      refine if_congr (and_congr_right fun hfree => and_congr_right fun hle => ?_) rfl rfl
      refine ⟨fun ⟨hmem, hpat⟩ => ⟨List.mem_cons_of_mem i hmem, hpat⟩,
        fun ⟨hmem, hpat⟩ => ⟨(List.mem_cons.1 hmem).resolve_left fun hi' => ?_, hpat⟩⟩
      exact hdrawn ⟨hfree, by omega, hi' ▸ hpat⟩

end

/-- Settles O52: the row is the list of its eight pixels, each put where the lemmas above say. -/
theorem spriteRasterization : Obligations.SpriteRasterization := by
  intro s n row h x line tile attr left r a b pat hline hx hh hrow htile hattr hleft hr ha hb hpat
  have haddr : s.ppu.spriteAddr tile attr row h = a := by
    rw [ha]
    rcases hh with rfl | rfl
    · rw [spriteAddr_of_small, if_pos rfl, hr]
      rfl
    · rw [spriteAddr_of_tall _ _ _ hrow, if_neg (by decide), hr]
      rfl
  have hrasterize : rasterize n row h line s = (List.range 8).foldl
      (putSpritePixel attr left.toNat (n == 0) (ppuRead a s) (ppuRead (a + 8) s)) line := by
    rw [← haddr, htile, hattr, hleft]
    rfl
  have hpattern : spritePattern attr (ppuRead a s) (ppuRead (a + 8) s) (x - left.toNat) = pat := by
    refine spritePattern_eq ?_
    rw [flipBit, ← hb, hpat]
  have hpalette : attr.setWidth 2 = BitVec.ofNat 2 (attr.toNat % 4) :=
    BitVec.eq_of_toNat_eq (by simp)
  rw [hrasterize, get_foldl_putSpritePixel _ _ _ _ _ hx _ hline, hpattern, hpalette]
  refine if_congr (and_congr_right fun _ => and_congr_right fun hle => and_congr_left fun _ => ?_) rfl rfl
  rw [List.mem_range]
  omega

end Sys2Proof.Machine
end

-- ---- Proofs: Pixel composition ----
section
/-! SUPPORT. The colour of a visible pixel in integers, the place of the back frame that it goes to, and what the host sees (R310,
R314, R370 to R375). -/

namespace Sys2Proof.Machine

/-! ### The background and the sprite pixel -/

/-- A layer is shown at `x` when it is not clipped there (R370, R371). -/
theorem not_clipped_iff (shown left : Bool) (x : Nat) :
    ¬(shown = false ∨ (x < 8 ∧ left = false)) ↔ shown = true ∧ (8 ≤ x ∨ left = true) := by
  cases shown <;> cases left <;> simp

section
variable (q : Ppu) (x : Nat)

/-- The background pixel is a nibble of the tile register's high half, or 0 where it is clipped (R370). -/
theorem bgPixel_toNat : (q.bgPixel x).toNat =
    if q.mask.getLsbD 3 = true ∧ (8 ≤ x ∨ q.mask.getLsbD 1 = true) then q.tileData.toNat / 2 ^ (32 + 4 * (7 - q.x.toNat)) % 16
    else 0 := by
  rw [Ppu.bgPixel, ← ite_not, apply_ite BitVec.toNat]
  refine if_congr (not_clipped_iff _ _ x) ?_ rfl
  rw [BitVec.toNat_setWidth, BitVec.toNat_ushiftRight, BitVec.toNat_ushiftRight, ← Nat.shiftRight_add, Nat.shiftRight_eq_div_pow,
    Nat.mul_comm]

theorem spritePixel_eq : q.spritePixel x =
    if q.mask.getLsbD 4 = true ∧ (8 ≤ x ∨ q.mask.getLsbD 2 = true) then Sparse.get .transparent q.spriteLine x
    else .transparent := by
  rw [Ppu.spritePixel, ← ite_not]
  exact if_congr (not_clipped_iff _ _ x) rfl rfl

end

/-! ### The colour -/

theorem bgOpaque_eq (bg : BitVec 4) : bgOpaque bg = decide (bg.toNat % 4 ≠ 0) := by
  revert bg; decide

/-- A sprite pixel wins over the background (R372). -/
theorem composeColor_solid (bg : BitVec 4) (pal pat : BitVec 2) (zero : Bool) :
    (composeColor bg (.solid pal pat zero)).toNat = 16 + 4 * pal.toNat + pat.toNat := by
  rw [composeColor]
  revert pal pat; decide

theorem composeColor_transparent (bg : BitVec 4) :
    (composeColor bg .transparent).toNat = if bg.toNat % 4 ≠ 0 then bg.toNat else 0 := by
  revert bg; decide

/-- The palette entry of a colour index, and greyscale (R373). -/
theorem outputColor_toNat (color : BitVec 5) (s : State) : (outputColor color s).toNat =
    (ppuRead (BitVec.ofNat 16 (0x3F00 + color.toNat)) s &&& (if s.ppu.mask.getLsbD 0 then 0x30 else 0x3F)).toNat := by
  have haddr : (0x3F00 ||| color.setWidth 16 : Word) = BitVec.ofNat 16 (0x3F00 + color.toNat) := by
    revert color; decide
  have hgrey : ∀ b : Byte, ((b &&& 0x30 &&& 0x3F).setWidth 6).toNat = (b &&& 0x30).toNat ∧
      ((b &&& 0x3F).setWidth 6).toNat = (b &&& 0x3F).toNat := by decide +kernel
  unfold outputColor
  rw [haddr]
  split
  · exact (hgrey _).1
  · exact (hgrey _).2

/-- A pixel of sprite 0 over an opaque background is a hit, but at the right edge (R374). -/
theorem spriteZeroHit_of_zero (bg : BitVec 4) (pal pat : BitVec 2) (x : Nat) :
    spriteZeroHit bg (.solid pal pat true) x = (decide (bg.toNat % 4 ≠ 0) && decide (x ≠ 255)) := by
  rw [spriteZeroHit, bgOpaque_eq, decide_not (p := x = 255)]
  rfl

/-! ### The pixel stage -/

section
variable {s : State}

/-- With rendering disabled both layers are clipped, so that a pixel is the backdrop and no hit (R375). -/
theorem renderPixel_of_off (hoff : s.ppu.renderingEnabled = false) (x y : Nat) : renderPixel x y s = backdrop x y s := by
  simp only [Ppu.renderingEnabled, Bool.or_eq_false_iff] at hoff
  obtain ⟨hbackground, hsprites⟩ := hoff
  have hbg : s.ppu.bgPixel x = 0 := by rw [Ppu.bgPixel, if_pos (.inl hbackground)]
  have hsp : s.ppu.spritePixel x = .transparent := by rw [Ppu.spritePixel, if_pos (.inl hsprites)]
  obtain ⟨f0, f1, hq⟩ := putPixel_eq s.ppu x y (outputColor 0 s)
  have hcolor : composeColor 0 .transparent = 0 := rfl
  simp only [renderPixel, backdrop, hbg, hsp, hcolor, hq, spriteZeroHit, Bool.or_false]

/-- A pixel sets sprite-zero hit on a hit, and never clears it (R374). -/
theorem renderPixel_sprite0Hit (x y : Nat) : (renderPixel x y s).ppu.sprite0Hit =
    (s.ppu.sprite0Hit || spriteZeroHit (s.ppu.bgPixel x) (s.ppu.spritePixel x) x) := by
  obtain ⟨f0, f1, hq⟩ := putPixel_eq s.ppu x y (outputColor (composeColor (s.ppu.bgPixel x) (s.ppu.spritePixel x)) s)
  rw [renderPixel, hq]
  rfl

/-- A visible position draws its pixel (R350). -/
theorem pixelStage_of_visible {line c : Nat} (hline : line ≤ 239) (hlo : 1 ≤ c) (hhi : c ≤ 256) :
    pixelStage line c s = renderPixel (c - 1) line s := by
  have hvisible : (decide (line ≤ 239) && visibleCycle c) = true := by simp [visibleCycle, hline, hlo, hhi]
  rw [pixelStage, hvisible, when_true]
  cases hon : s.ppu.renderingEnabled
  · exact (renderPixel_of_off hon _ _).symm
  · rfl

theorem pixelStage_of_other {line c : Nat} (h : ¬(line ≤ 239 ∧ 1 ≤ c ∧ c ≤ 256)) : pixelStage line c s = s := by
  have hvisible : (decide (line ≤ 239) && visibleCycle c) = false := by simpa [visibleCycle] using h
  rw [pixelStage, hvisible, when_false]

/-- No tick writes the presentation side (R373). -/
theorem ppuTick_presented (s : State) : (if s.ppu.front = 0 then (ppuTick s).ppu.frame0 else (ppuTick s).ppu.frame1) =
    if s.ppu.front = 0 then s.ppu.frame0 else s.ppu.frame1 := by
  rw [ppuTick_frame0, ppuTick_frame1]
  by_cases hvisible : s.ppu.scanline ≤ 239 ∧ 1 ≤ s.ppu.cycle ∧ s.ppu.cycle ≤ 256
  · obtain ⟨hline, hlo, hhi⟩ := hvisible
    rw [pixelStage_of_visible hline hlo hhi]
    by_cases hfront : s.ppu.front = 0
    · simp only [if_pos hfront, renderPixel, State.setPpu_ppu, Ppu.putPixel]
    · simp only [if_neg hfront, renderPixel, State.setPpu_ppu, Ppu.putPixel]
  · rw [pixelStage_of_other hvisible]

end

/-- A pixel of a frame after one has been written: distinct pixels have distinct places (R41). -/
theorem framePixel_set {f : Sparse (BitVec 6)} (hf : Sparse.wf 0 61440 f = true) {x y x' y' : Nat} (hx : x ≤ 255) (hx' : x' ≤ 255)
    (c : BitVec 6) :
    framePixel (Sparse.set 0 f (256 * y' + x') c) x y = if x = x' ∧ y = y' then c else framePixel f x y := by
  unfold framePixel
  split
  case isTrue h => rw [h.1, h.2, Sparse.get_set_same hf]
  case isFalse h => exact Sparse.get_set_other (by omega)

/-- The pixel of a visible position goes to one place of the back frame (R373). -/
theorem ppuTick_backFrame {s : State} (hs : s.memoriesWf = true) (hline : s.ppu.scanline ≤ 239) (hlo : 1 ≤ s.ppu.cycle)
    (hhi : s.ppu.cycle ≤ 256) {x : Nat} (hx : x ≤ 255) (y : Nat) :
    framePixel (if s.ppu.front = 0 then (ppuTick s).ppu.frame1 else (ppuTick s).ppu.frame0) x y =
      if x = s.ppu.cycle - 1 ∧ y = s.ppu.scanline then
        outputColor (composeColor (s.ppu.bgPixel (s.ppu.cycle - 1)) (s.ppu.spritePixel (s.ppu.cycle - 1))) s
      else framePixel (if s.ppu.front = 0 then s.ppu.frame1 else s.ppu.frame0) x y := by
  obtain ⟨-, -, -, -, -, -, -, -, hframe0, hframe1⟩ := (memoriesWf_iff s).1 hs
  rw [ppuTick_frame0, ppuTick_frame1, pixelStage_of_visible hline hlo hhi]
  by_cases hfront : s.ppu.front = 0
  · simp only [if_pos hfront, renderPixel, State.setPpu_ppu, Ppu.putPixel]
    exact framePixel_set hframe1 hx (by omega) _
  · simp only [if_neg hfront, renderPixel, State.setPpu_ppu, Ppu.putPixel]
    exact framePixel_set hframe0 hx (by omega) _

/-! ### What the host sees -/

/-- The frames are swapped after the last position of a frame (R310). -/
theorem ppuTick_front {s : State} (hs : s.countersWf = true) : (ppuTick s).ppu.front =
    if s.ppu.scanline = 261 ∧ s.ppu.cycle = 340 then 1 - s.ppu.front else s.ppu.front := by
  obtain ⟨hcycle, hline⟩ := (countersWf_iff s).1 hs
  have hfront : (ppuTick s).ppu.front = s.ppu.advance.front := (congrArg (·.2.2) (ppuTick_position s) :)
  rw [hfront, Ppu.advance]
  split
  · rw [if_neg (by omega)]
  split
  · rw [if_neg (by omega)]
  · rw [if_pos (by omega)]

/-- No tick changes what the host sees but the swap, which shows the frame drawn last (R310, R314). -/
theorem getPixel_ppuTick {s : State} (hs : s.countersWf = true) (x y : Nat) : getPixel x y (ppuTick s) =
    if s.ppu.scanline = 261 ∧ s.ppu.cycle = 340 then
      Config.systemPalette (framePixel (if s.ppu.front = 0 then s.ppu.frame1 else s.ppu.frame0) x y)
    else getPixel x y s := by
  rw [getPixel, ppuTick_front hs]
  by_cases hswap : s.ppu.scanline = 261 ∧ s.ppu.cycle = 340
  · have hother : ∀ f : BitVec 1, 1 - f = 0 ↔ ¬f = 0 := by decide
    rw [if_pos hswap, if_pos hswap, ppuTick_frame0, ppuTick_frame1, pixelStage_of_other (by omega)]
    simp only [hother, ite_not]
  · rw [if_neg hswap, if_neg hswap, ppuTick_presented, getPixel]

/-- Settles O53: the pixel stage at a visible position and at every other, and the frames the host sees. -/
theorem pixelComposition : Obligations.PixelComposition := by
  intro s
  refine ⟨fun bg sp color c hs hline hlo hhi hbg hsp hcolor hc => ?visible, fun hother => ?other,
    fun x y _ _ hcounters => ⟨rfl, getPixel_ppuTick hcounters x y⟩⟩
  case other =>
    rw [ppuTick_frame0, ppuTick_frame1, ppuTick_sprite0Hit, pixelStage_of_other hother]
    exact ⟨rfl, rfl, rfl⟩
  have hbgPixel : (s.ppu.bgPixel (s.ppu.cycle - 1)).toNat = bg := by rw [bgPixel_toNat, hbg]
  have hspPixel : s.ppu.spritePixel (s.ppu.cycle - 1) = sp := by rw [spritePixel_eq, hsp]
  have hcompose : (composeColor (s.ppu.bgPixel (s.ppu.cycle - 1)) sp).toNat = color := by
    rw [hcolor, ← hbgPixel]
    cases sp with
    | transparent => exact composeColor_transparent _
    | solid pal pat zero => exact composeColor_solid _ pal pat zero
  refine ⟨fun x y hx _ => ?place, ?presented, ?hit⟩
  case presented =>
    have h := ppuTick_presented s
    by_cases hfront : s.ppu.front = 0 <;> simpa only [hfront, if_true, if_false] using h
  case place =>
    rw [ppuTick_backFrame hs hline hlo hhi hx, apply_ite BitVec.toNat, outputColor_toNat, hspPixel, hcompose, hc]
  case hit =>
    rw [ppuTick_sprite0Hit, pixelStage_of_visible hline hlo hhi, renderPixel_sprite0Hit, hspPixel, clears_eq_false (by omega),
      Bool.not_false, Bool.and_true]
    cases sp with
    | transparent => rfl
    | solid pal pat zero =>
      cases zero
      · rfl
      · rw [spriteZeroHit_of_zero, hbgPixel]

end Sys2Proof.Machine
end

-- ---- Proofs: The driver loop's turn, interrupt service and reset ----
section
/-! SUPPORT. A step is the driver loop's turn or a host move (R420, R423). What ends the turn, what interrupt service does in
it, and what each of the two can write to the pending cell (R401 to R404, R406); and `reset()` as a host move (R441 to R443). -/

namespace Sys2Proof.Machine

/-! ### The two kinds of step -/

/-- The driver loop has the turn: the host has no move left, or lets the loop run (R420). -/
def State.loopTurn (s : State) : Prop := s.host = [] ∨ s.host.head? = some .run

theorem step_of_noMoves {s : State} (h : s.host = []) : step s = iterate s := by
  rw [step, h]

theorem step_of_loopTurn {s : State} (h : s.loopTurn) : ∃ rest, step s = iterate { s with host := rest } := by
  rcases h with h | h
  · exact ⟨s.host, step_of_noMoves h⟩
  · obtain ⟨rest, hhost⟩ := List.head?_eq_some_iff.1 h
    exact ⟨rest, by rw [step, hhost]⟩

theorem step_of_move {s : State} {m : HostMove} {rest : List HostMove} (h : s.host = m :: rest) (hm : m ≠ .run) :
    step s = .next (hostMove m { s with host := rest }) := by
  rw [step, h]
  cases m with
  | run => exact absurd rfl hm
  | raiseIRQ | reset | quit => rfl

theorem not_loopTurn_of_move {s : State} {m : HostMove} {rest : List HostMove} (h : s.host = m :: rest) (hm : m ≠ .run) :
    ¬s.loopTurn := by
  simp [State.loopTurn, h, hm]

theorem loopTurn_or_move (s : State) : s.loopTurn ∨ ∃ m rest, s.host = m :: rest ∧ m ≠ .run := by
  unfold State.loopTurn
  cases s.host with
  | nil => exact .inl (.inl rfl)
  | cons m rest =>
    by_cases hm : m = .run
    · exact .inl (.inr (congrArg some hm))
    · exact .inr ⟨m, rest, rfl, hm⟩

/-! ### What stops the driver loop -/

/-- An iteration is the fault that `stopReason` gives, or a CPU tick and the PPU ticks it owes (R420). -/
theorem iterate_cases (s : State) : (∃ f, stopReason s = some f ∧ iterate s = .fault f) ∨
    ∃ u, stopReason s = none ∧ cpuTick s = .next u ∧ iterate s = .next (catchUp u) := by
  cases hstop : stopReason s with
  | some f => exact .inl ⟨f, rfl, by rw [iterate, hstop]⟩
  | none =>
    obtain ⟨u, hu, -⟩ := answers_cpuTick s
    exact .inr ⟨u, rfl, hu, iterate_of_cpuTick hstop hu⟩

theorem haltFault_iff (s : State) :
    s.haltFault = true ↔ s.params.busFaultPolicy = .halt ∧ ∃ a k, FaultRecord.busFault a k ∈ s.faults := by
  rw [State.haltFault, Bool.and_eq_true, beq_iff_eq, List.any_eq_true]
  refine and_congr_right fun _ => ⟨fun ⟨f, hmem, hf⟩ => ?_, fun ⟨a, k, hmem⟩ => ⟨_, hmem, rfl⟩⟩
  cases f with
  | busFault a k => exact ⟨a, k, hmem⟩
  | halt op => cases hf

/-- No agent has a step exactly when the CPU has halted, a bus fault has halted the machine or the host has quit (R406, R420). -/
theorem stopReason_ne_none_iff (s : State) : stopReason s ≠ none ↔ s.running = false ∨
    (s.params.busFaultPolicy = .halt ∧ ∃ a k, FaultRecord.busFault a k ∈ s.faults) ∨ s.quit = true := by
  rw [← haltFault_iff, stopReason]
  split_ifs with hhalted hfault hquit
  · simp [hhalted]
  · simp [hfault]
  · simp [hquit]
  · simp [hhalted, hfault, hquit]

theorem iterate_fault_iff (s : State) : (∃ f, iterate s = .fault f) ↔ stopReason s ≠ none := by
  rcases iterate_cases s with ⟨f, hstop, h⟩ | ⟨u, hstop, -, h⟩ <;> simp [hstop, h]

theorem iterate_ne_refused (s : State) (r : Refusal) : iterate s ≠ .refused r := by
  rcases iterate_cases s with ⟨f, -, h⟩ | ⟨u, -, -, h⟩ <;> simp [h]

/-- Settles O8: the driver loop's turn faults exactly when `stopReason` gives a reason, and a host move always goes on. -/
theorem stepStopsExactlyWhenNoAgentSteps : Obligations.StepStopsExactlyWhenNoAgentSteps := by
  intro s
  rcases loopTurn_or_move s with hturn | ⟨m, rest, hhost, hm⟩
  · obtain ⟨rest, hstep⟩ := step_of_loopTurn hturn
    rw [hstep]
    refine ⟨?_, iterate_ne_refused _⟩
    rw [iterate_fault_iff, stopReason_ne_none_iff]
    exact (and_iff_right hturn).symm
  · have hgoes := step_of_move hhost hm
    refine ⟨⟨fun ⟨f, hf⟩ => ?_, fun ⟨hturn, _⟩ => absurd hturn (not_loopTurn_of_move hhost hm)⟩, fun r hr => ?_⟩
    · cases hgoes.symm.trans hf
    · cases hgoes.symm.trans hr

/-! ### Interrupt service -/

/-- A pending NMI is serviced whatever I is, a pending IRQ while I is 0 (R403). -/
theorem interruptToService_of_pending {s : State} {k : Interrupt} (hpending : s.pending = some k)
    (hi : k = .nmi ∨ getFlag .i s.p = false) : interruptToService s = some k := by
  rw [interruptToService, hpending]
  cases k with
  | nmi => rfl
  | irq =>
    have hflag : s.flag .i = false := hi.resolve_left (by decide)
    simp [hflag]

theorem cpuTick_interrupt {s : State} {k : Interrupt} (h : interruptToService s = some k) :
    cpuTick s = .next ((serviceInterrupt k s).state.setCycles 0) := by
  simp only [cpuTick, h]

/-- A tick that returns no cycles owes the PPU nothing (R402, R420). -/
theorem catchUp_setCycles_zero (s : State) : catchUp (s.setCycles 0) = s.setCycles 0 := rfl

/-- Settles O6: the turn is `serviceInterrupt`, and no PPU tick follows it. -/
theorem interruptIsServiced : Obligations.InterruptIsServiced := by
  intro s k hhost hstop hpending hi
  have hservice := cpuTick_interrupt (interruptToService_of_pending hpending hi)
  refine ⟨putFlag .i true s.p, onlyFlag_putFlag .i true s.p, ?_⟩
  rw [step_of_noMoves hhost, iterate_of_cpuTick hstop hservice, catchUp_setCycles_zero, serviceInterrupt_eq]
  cases k with
  | nmi | irq => rfl

/-! ### What each agent writes to the pending cell -/

theorem keepsPipeline_fetchOperands (op : Byte) (s : State) : KeepsPipeline s (fetchOperands op s).state := by
  unfold fetchOperands
  split
  · exact .refl s
  · exact keepsPipeline_bind (keepsPipeline_cpuRead _ s) fun _ u => .refl u
  · exact keepsPipeline_bind (keepsPipeline_cpuRead _ s) fun _ u =>
      keepsPipeline_bind (keepsPipeline_cpuRead _ u) fun _ u => .refl u

theorem keepsPipeline_stopAtNext (op : Byte) (pc : Word) {s : State} {r : Bus Instr} (hr : KeepsPipeline s r.state) :
    KeepsPipeline s (stopAtNext op pc r).state := by
  cases r with
  | ok i u => exact hr
  | stop u => exact hr.trans ⟨rfl, id⟩

theorem keepsPipeline_fetch (s : State) : KeepsPipeline s (fetch s).state :=
  keepsPipeline_bind (keepsPipeline_cpuRead _ s) fun op u =>
    keepsPipeline_stopAtNext op s.pc (keepsPipeline_fetchOperands op u)

theorem KeepsPipeline.pending {s t : State} (h : KeepsPipeline s t) : t.pending = s.pending := congrArg (·.1) h.parts

/-- A CPU tick empties the cell, by interrupt service, or leaves it (R402, R403). -/
theorem cpuTick_pending {s t : State} (h : cpuTick s = .next t) : t.pending = none ∨ t.pending = s.pending := by
  cases hint : interruptToService s with
  | some k =>
    rw [cpuTick_interrupt hint, serviceInterrupt_eq] at h
    cases h
    exact .inl rfl
  | none =>
    have hkeeps := keepsPipeline_fetch s
    cases hfetch : fetch s with
    | ok i u =>
      rw [hfetch] at hkeeps
      rw [cpuTick_fetched hint hfetch] at h
      exact .inr (hkeeps.trans (resultKeeps_exec i u t h)).pending
    | stop u =>
      rw [hfetch] at hkeeps
      rw [cpuTick_fetchStop hint hfetch] at h
      cases h
      exact .inr hkeeps.pending

/-- A PPU tick writes NMI to the cell or leaves it (R311). -/
theorem ppuTick_pending (s : State) : (ppuTick s).pending = some .nmi ∨ (ppuTick s).pending = s.pending := by
  obtain ⟨hstart, -, hother, -⟩ := vblankAndNmi s
  by_cases h : s.ppu.scanline = 241 ∧ s.ppu.cycle = 1
  · obtain ⟨-, hpending⟩ := hstart h
    rw [hpending]
    split
    · exact .inl rfl
    · exact .inr rfl
  · exact .inr (hother h)

theorem ppuTicks_pending (n : Nat) (s : State) :
    (ppuTicks n s).pending = some .nmi ∨ (ppuTicks n s).pending = s.pending := by
  induction n generalizing s with
  | zero => exact .inr rfl
  | succ n ih =>
    rcases ih (ppuTick s) with hnmi | hkept
    · exact .inl hnmi
    · exact (ppuTick_pending s).imp hkept.trans hkept.trans

/-- No iteration of the driver loop puts an IRQ into the cell (R404). -/
theorem iterate_raises_no_irq {s t : State} (h : iterate s = .next t) (hirq : t.pending = some .irq) :
    s.pending = some .irq := by
  rcases iterate_cases s with ⟨f, -, hf⟩ | ⟨u, -, htick, hu⟩
  · cases hf.symm.trans h
  cases hu.symm.trans h
  have hcell : u.pending = some .irq := by
    rcases ppuTicks_pending (3 * u.cycles) u with hnmi | hkept
    · cases hnmi.symm.trans hirq
    · exact hkept.symm.trans hirq
  rcases cpuTick_pending htick with hempty | hkept
  · cases hempty.symm.trans hcell
  · exact hkept.symm.trans hcell

/-- RaiseIRQ writes the cell alone, and only an empty one (R404). -/
theorem raiseIrq_eq (s : State) :
    s.raiseIrq = { s with pending := if s.pending = none then some .irq else s.pending } := by
  unfold State.raiseIrq
  split
  · rename_i h
    rw [if_pos h]
  · rename_i h
    rw [if_neg (by simp [h])]

/-- No host move but RaiseIRQ puts an IRQ into the cell (R404, R441). -/
theorem hostMove_raises_no_irq {m : HostMove} {s : State} (hm : m ≠ .raiseIRQ)
    (hirq : (hostMove m s).pending = some .irq) : s.pending = some .irq := by
  cases m with
  | raiseIRQ => exact absurd rfl hm
  | reset =>
    rw [hostMove, hostReset_eq] at hirq
    cases hirq
  | run | quit => exact hirq

/-- Settles O59: of the agents, the CPU only empties the cell, the PPU writes NMI alone, and of the host's moves `reset()` empties
it and only RaiseIRQ writes IRQ. -/
theorem onlyTheHostRaisesIrq : Obligations.OnlyTheHostRaisesIrq := by
  intro s t
  refine ⟨fun rest hhost => ?_, fun hhead h hirq => ?_⟩
  · rw [step_of_move hhost (by decide), hostMove, raiseIrq_eq]
  rcases loopTurn_or_move s with hturn | ⟨m, rest, hhost, hm⟩
  · obtain ⟨rest, hstep⟩ := step_of_loopTurn hturn
    exact (iterate_raises_no_irq (hstep.symm.trans h) hirq :)
  · have hnotIrq : m ≠ .raiseIRQ := by simpa [hhost] using hhead
    cases (step_of_move hhost hm).symm.trans h
    exact (hostMove_raises_no_irq hnotIrq hirq :)

/-! ### Reset -/

theorem hostReset_idempotent (s : State) : hostReset (hostReset s) = hostReset s := by
  rw [hostReset_eq (hostReset s), hostReset_eq s]
  rfl

/-- Settles O54: the host's move is `hostReset`, whose writes read only the cartridge, which it keeps. -/
theorem resetWritesAndKeeps : Obligations.ResetWritesAndKeeps := by
  refine fun s rest => ⟨?_, hostReset_idempotent s⟩
  rw [step_of_move rfl (by decide), hostMove, hostReset_eq]
  rfl

/-- Settles O60: every memory after reset is the empty list, and the registers are literals. -/
theorem resetMeetsTheInvariants : Obligations.ResetMeetsTheInvariants := by
  unfold Obligations.ResetMeetsTheInvariants
  decide

end Sys2Proof.Machine
end
